-- ==== Sys2Proof/Word.lean ====
section
/-! DEFINITION. The two word types of the machine: bytes of data and 16-bit addresses (00_scope.md R7). -/

namespace Sys2Proof

/-- A byte of data: every 8-bit register, memory byte and bus transfer (R7, R13). -/
abbrev Byte := BitVec 8

/-- A 16-bit address: the program counter and every bus address (R7, R60). -/
abbrev Addr := BitVec 16

end Sys2Proof
end

