-- ==== Sys2Proof/Config.lean ====
section
/-! DEFINITION. What an implementation fixes (00_scope.md R8), and the values the spec leaves open. -/

namespace Sys2Proof

/-- The kinds of component a Bus entry may name (20_memory.md R65–R67, R70). -/
inductive Component where
  | ram0
  | ram1
  | rom
  | pia
  deriving DecidableEq, Repr

/-- One entry of the Bus's construction argument `BUS_ENTRIES`: an inclusive address range and the component
mapped there (20_memory.md R61, 10_state.md R52). -/
structure BusEntry where
  start : Nat
  stop : Nat
  component : Component
  deriving DecidableEq, Repr

/-- The construction arguments of the Machine (00_scope.md R8, 70_reset_and_hazards.md R401). -/
structure Params where
  /-- `ROM_IMAGE`: 256 bytes, the byte at 0xFF00 first. -/
  romImage : List Byte
  /-- `RAM_INIT` of the bank at 0x0000: 4096 bytes. -/
  ram0Init : List Byte
  /-- `RAM_INIT` of the bank at 0xE000: 4096 bytes. -/
  ram1Init : List Byte
  /-- `PIA_IRQ_WIRED`. -/
  piaIrqWired : Bool
  /-- `HOST_READ_SIDE_EFFECTS`. -/
  hostReadSideEffects : Bool
  /-- `TARGET_HZ`, a positive number. -/
  targetHz : Rat
  /-- `CHUNK`, a positive natural number. -/
  chunk : Nat
  deriving DecidableEq, Repr

/-- What a stored byte that nothing has written reads as. `RAM_INIT` and `ROM_IMAGE` are OPEN in the spec
(92_eei_decisions.md D11): DESIGN CHOICE, unsafe, log 1. -/
def Config.unlistedByte : Byte := 0

/-- FREE VALUE: the `n`-th unspecified byte. `LoadState` leaves `opcode` unspecified (60_exceptions.md R386,
10_state.md R31); log 9. -/
opaque Config.freeByte : Nat → Byte

/-- FREE VALUE: whether this implementation accepts a snapshot whose version tag is not its own
(60_exceptions.md R385, R386 give no tags); log 10. -/
opaque Config.supportsVersion : Nat → Bool

end Sys2Proof
end

