-- ==== Sys2Proof/Syntax.lean ====
section
/-! DEFINITION. The instructions as syntax: the thirteen addressing modes (30_encoding.md R102), the seventy mnemonics, and
one constructor of `Instr` per opcode byte (30_encoding.md R106, spec/opcode_table.json). A constructor's operand is what its format
holds (R101): nothing (F1), the byte `d8` (F2) or the 16-bit word `a16` (F3). Every operand value is legal (R109). -/

namespace Sys2Proof

/-- The addressing modes of 30_encoding.md R102. -/
inductive Mode where
  | imp | acc | imm | zp | zpx | zpy | abs | abx | aby | ind | izx | izy | rel
  deriving DecidableEq, Repr

/-- The mnemonics of spec/opcode_table.json; `nop` stands for all 47 no-op opcodes (30_encoding.md R114). -/
inductive Mnemonic where
  | brk | ora | nop | slo | asl | php | anc | bpl | clc | jsr | and | rla
  | bit | rol | plp | bmi | sec | rti | eor | sre | lsr | pha | alr | jmp
  | bvc | cli | rts | adc | rra | ror | pla | arr | bvs | sei | sta | sax
  | sty | stx | dey | txa | bcc | tya | txs | ldy | lda | ldx | lax | tay
  | tax | bcs | clv | tsx | las | cpy | cmp | dcp | dec | iny | dex | sbx
  | bne | cld | cpx | sbc | isc | inc | inx | usbc | beq | sed
  deriving DecidableEq, Repr

/-- The instructions, one constructor per row of the opcode table: those with operand bytes in the table's order, then those of
one byte in the table's order. -/
inductive Instr where
  /-- `01`, ORA izx (R201). -/
  | oraIzx (d8 : Byte)
  /-- `03`, SLO izx (R261). -/
  | sloIzx (d8 : Byte)
  /-- `04`, NOP zp (R277). -/
  | nop04 (d8 : Byte)
  /-- `05`, ORA zp (R201). -/
  | oraZp (d8 : Byte)
  /-- `06`, ASL zp (R204). -/
  | aslZp (d8 : Byte)
  /-- `07`, SLO zp (R261). -/
  | sloZp (d8 : Byte)
  /-- `09`, ORA imm (R201). -/
  | oraImm (d8 : Byte)
  /-- `0B`, ANC imm (R269). -/
  | anc0B (d8 : Byte)
  /-- `0C`, NOP abs (R277). -/
  | nop0C (a16 : Addr)
  /-- `0D`, ORA abs (R201). -/
  | oraAbs (a16 : Addr)
  /-- `0E`, ASL abs (R204). -/
  | aslAbs (a16 : Addr)
  /-- `0F`, SLO abs (R261). -/
  | sloAbs (a16 : Addr)
  /-- `10`, BPL rel (R232). -/
  | bpl (d8 : Byte)
  /-- `11`, ORA izy (R201). -/
  | oraIzy (d8 : Byte)
  /-- `13`, SLO izy (R261). -/
  | sloIzy (d8 : Byte)
  /-- `14`, NOP zpx (R277). -/
  | nop14 (d8 : Byte)
  /-- `15`, ORA zpx (R201). -/
  | oraZpx (d8 : Byte)
  /-- `16`, ASL zpx (R204). -/
  | aslZpx (d8 : Byte)
  /-- `17`, SLO zpx (R261). -/
  | sloZpx (d8 : Byte)
  /-- `19`, ORA aby (R201). -/
  | oraAby (a16 : Addr)
  /-- `1B`, SLO aby (R261). -/
  | sloAby (a16 : Addr)
  /-- `1C`, NOP abx (R277). -/
  | nop1C (a16 : Addr)
  /-- `1D`, ORA abx (R201). -/
  | oraAbx (a16 : Addr)
  /-- `1E`, ASL abx (R204). -/
  | aslAbx (a16 : Addr)
  /-- `1F`, SLO abx (R261). -/
  | sloAbx (a16 : Addr)
  /-- `20`, JSR abs (R221). -/
  | jsr (a16 : Addr)
  /-- `21`, AND izx (R200). -/
  | andIzx (d8 : Byte)
  /-- `23`, RLA izx (R262). -/
  | rlaIzx (d8 : Byte)
  /-- `24`, BIT zp (R203). -/
  | bitZp (d8 : Byte)
  /-- `25`, AND zp (R200). -/
  | andZp (d8 : Byte)
  /-- `26`, ROL zp (R206). -/
  | rolZp (d8 : Byte)
  /-- `27`, RLA zp (R262). -/
  | rlaZp (d8 : Byte)
  /-- `29`, AND imm (R200). -/
  | andImm (d8 : Byte)
  /-- `2B`, ANC imm (R269). -/
  | anc2B (d8 : Byte)
  /-- `2C`, BIT abs (R203). -/
  | bitAbs (a16 : Addr)
  /-- `2D`, AND abs (R200). -/
  | andAbs (a16 : Addr)
  /-- `2E`, ROL abs (R206). -/
  | rolAbs (a16 : Addr)
  /-- `2F`, RLA abs (R262). -/
  | rlaAbs (a16 : Addr)
  /-- `30`, BMI rel (R230). -/
  | bmi (d8 : Byte)
  /-- `31`, AND izy (R200). -/
  | andIzy (d8 : Byte)
  /-- `33`, RLA izy (R262). -/
  | rlaIzy (d8 : Byte)
  /-- `34`, NOP zpx (R277). -/
  | nop34 (d8 : Byte)
  /-- `35`, AND zpx (R200). -/
  | andZpx (d8 : Byte)
  /-- `36`, ROL zpx (R206). -/
  | rolZpx (d8 : Byte)
  /-- `37`, RLA zpx (R262). -/
  | rlaZpx (d8 : Byte)
  /-- `39`, AND aby (R200). -/
  | andAby (a16 : Addr)
  /-- `3B`, RLA aby (R262). -/
  | rlaAby (a16 : Addr)
  /-- `3C`, NOP abx (R277). -/
  | nop3C (a16 : Addr)
  /-- `3D`, AND abx (R200). -/
  | andAbx (a16 : Addr)
  /-- `3E`, ROL abx (R206). -/
  | rolAbx (a16 : Addr)
  /-- `3F`, RLA abx (R262). -/
  | rlaAbx (a16 : Addr)
  /-- `41`, EOR izx (R202). -/
  | eorIzx (d8 : Byte)
  /-- `43`, SRE izx (R263). -/
  | sreIzx (d8 : Byte)
  /-- `44`, NOP zp (R277). -/
  | nop44 (d8 : Byte)
  /-- `45`, EOR zp (R202). -/
  | eorZp (d8 : Byte)
  /-- `46`, LSR zp (R205). -/
  | lsrZp (d8 : Byte)
  /-- `47`, SRE zp (R263). -/
  | sreZp (d8 : Byte)
  /-- `49`, EOR imm (R202). -/
  | eorImm (d8 : Byte)
  /-- `4B`, ALR imm (R270). -/
  | alr (d8 : Byte)
  /-- `4C`, JMP abs (R220). -/
  | jmpAbs (a16 : Addr)
  /-- `4D`, EOR abs (R202). -/
  | eorAbs (a16 : Addr)
  /-- `4E`, LSR abs (R205). -/
  | lsrAbs (a16 : Addr)
  /-- `4F`, SRE abs (R263). -/
  | sreAbs (a16 : Addr)
  /-- `50`, BVC rel (R233). -/
  | bvc (d8 : Byte)
  /-- `51`, EOR izy (R202). -/
  | eorIzy (d8 : Byte)
  /-- `53`, SRE izy (R263). -/
  | sreIzy (d8 : Byte)
  /-- `54`, NOP zpx (R277). -/
  | nop54 (d8 : Byte)
  /-- `55`, EOR zpx (R202). -/
  | eorZpx (d8 : Byte)
  /-- `56`, LSR zpx (R205). -/
  | lsrZpx (d8 : Byte)
  /-- `57`, SRE zpx (R263). -/
  | sreZpx (d8 : Byte)
  /-- `59`, EOR aby (R202). -/
  | eorAby (a16 : Addr)
  /-- `5B`, SRE aby (R263). -/
  | sreAby (a16 : Addr)
  /-- `5C`, NOP abx (R277). -/
  | nop5C (a16 : Addr)
  /-- `5D`, EOR abx (R202). -/
  | eorAbx (a16 : Addr)
  /-- `5E`, LSR abx (R205). -/
  | lsrAbx (a16 : Addr)
  /-- `5F`, SRE abx (R263). -/
  | sreAbx (a16 : Addr)
  /-- `61`, ADC izx (R183). -/
  | adcIzx (d8 : Byte)
  /-- `63`, RRA izx (R264). -/
  | rraIzx (d8 : Byte)
  /-- `64`, NOP zp (R277). -/
  | nop64 (d8 : Byte)
  /-- `65`, ADC zp (R183). -/
  | adcZp (d8 : Byte)
  /-- `66`, ROR zp (R207). -/
  | rorZp (d8 : Byte)
  /-- `67`, RRA zp (R264). -/
  | rraZp (d8 : Byte)
  /-- `69`, ADC imm (R183). -/
  | adcImm (d8 : Byte)
  /-- `6B`, ARR imm (R271). -/
  | arr (d8 : Byte)
  /-- `6C`, JMP ind (R220). -/
  | jmpInd (a16 : Addr)
  /-- `6D`, ADC abs (R183). -/
  | adcAbs (a16 : Addr)
  /-- `6E`, ROR abs (R207). -/
  | rorAbs (a16 : Addr)
  /-- `6F`, RRA abs (R264). -/
  | rraAbs (a16 : Addr)
  /-- `70`, BVS rel (R234). -/
  | bvs (d8 : Byte)
  /-- `71`, ADC izy (R183). -/
  | adcIzy (d8 : Byte)
  /-- `73`, RRA izy (R264). -/
  | rraIzy (d8 : Byte)
  /-- `74`, NOP zpx (R277). -/
  | nop74 (d8 : Byte)
  /-- `75`, ADC zpx (R183). -/
  | adcZpx (d8 : Byte)
  /-- `76`, ROR zpx (R207). -/
  | rorZpx (d8 : Byte)
  /-- `77`, RRA zpx (R264). -/
  | rraZpx (d8 : Byte)
  /-- `79`, ADC aby (R183). -/
  | adcAby (a16 : Addr)
  /-- `7B`, RRA aby (R264). -/
  | rraAby (a16 : Addr)
  /-- `7C`, NOP abx (R277). -/
  | nop7C (a16 : Addr)
  /-- `7D`, ADC abx (R183). -/
  | adcAbx (a16 : Addr)
  /-- `7E`, ROR abx (R207). -/
  | rorAbx (a16 : Addr)
  /-- `7F`, RRA abx (R264). -/
  | rraAbx (a16 : Addr)
  /-- `80`, NOP imm (R276). -/
  | nop80 (d8 : Byte)
  /-- `81`, STA izx (R153). -/
  | staIzx (d8 : Byte)
  /-- `82`, NOP imm (R276). -/
  | nop82 (d8 : Byte)
  /-- `83`, SAX izx (R265). -/
  | saxIzx (d8 : Byte)
  /-- `84`, STY zp (R155). -/
  | styZp (d8 : Byte)
  /-- `85`, STA zp (R153). -/
  | staZp (d8 : Byte)
  /-- `86`, STX zp (R154). -/
  | stxZp (d8 : Byte)
  /-- `87`, SAX zp (R265). -/
  | saxZp (d8 : Byte)
  /-- `89`, NOP imm (R276). -/
  | nop89 (d8 : Byte)
  /-- `8B`, NOP imm (the ANE position) (R279). -/
  | nop8B (d8 : Byte)
  /-- `8C`, STY abs (R155). -/
  | styAbs (a16 : Addr)
  /-- `8D`, STA abs (R153). -/
  | staAbs (a16 : Addr)
  /-- `8E`, STX abs (R154). -/
  | stxAbs (a16 : Addr)
  /-- `8F`, SAX abs (R265). -/
  | saxAbs (a16 : Addr)
  /-- `90`, BCC rel (R227). -/
  | bcc (d8 : Byte)
  /-- `91`, STA izy (R153). -/
  | staIzy (d8 : Byte)
  /-- `93`, NOP izy (the SHA position) (R279). -/
  | nop93 (d8 : Byte)
  /-- `94`, STY zpx (R155). -/
  | styZpx (d8 : Byte)
  /-- `95`, STA zpx (R153). -/
  | staZpx (d8 : Byte)
  /-- `96`, STX zpy (R154). -/
  | stxZpy (d8 : Byte)
  /-- `97`, SAX zpy (R265). -/
  | saxZpy (d8 : Byte)
  /-- `99`, STA aby (R153). -/
  | staAby (a16 : Addr)
  /-- `9B`, NOP aby (the TAS position) (R279). -/
  | nop9B (a16 : Addr)
  /-- `9C`, NOP abx (the SHY position) (R279). -/
  | nop9C (a16 : Addr)
  /-- `9D`, STA abx (R153). -/
  | staAbx (a16 : Addr)
  /-- `9E`, NOP aby (the SHX position) (R279). -/
  | nop9E (a16 : Addr)
  /-- `9F`, NOP aby (the SHA position) (R279). -/
  | nop9F (a16 : Addr)
  /-- `A0`, LDY imm (R152). -/
  | ldyImm (d8 : Byte)
  /-- `A1`, LDA izx (R150). -/
  | ldaIzx (d8 : Byte)
  /-- `A2`, LDX imm (R151). -/
  | ldxImm (d8 : Byte)
  /-- `A3`, LAX izx (R266). -/
  | laxIzx (d8 : Byte)
  /-- `A4`, LDY zp (R152). -/
  | ldyZp (d8 : Byte)
  /-- `A5`, LDA zp (R150). -/
  | ldaZp (d8 : Byte)
  /-- `A6`, LDX zp (R151). -/
  | ldxZp (d8 : Byte)
  /-- `A7`, LAX zp (R266). -/
  | laxZp (d8 : Byte)
  /-- `A9`, LDA imm (R150). -/
  | ldaImm (d8 : Byte)
  /-- `AB`, NOP imm (the LXA position) (R279). -/
  | nopAB (d8 : Byte)
  /-- `AC`, LDY abs (R152). -/
  | ldyAbs (a16 : Addr)
  /-- `AD`, LDA abs (R150). -/
  | ldaAbs (a16 : Addr)
  /-- `AE`, LDX abs (R151). -/
  | ldxAbs (a16 : Addr)
  /-- `AF`, LAX abs (R266). -/
  | laxAbs (a16 : Addr)
  /-- `B0`, BCS rel (R228). -/
  | bcs (d8 : Byte)
  /-- `B1`, LDA izy (R150). -/
  | ldaIzy (d8 : Byte)
  /-- `B3`, LAX izy (R266). -/
  | laxIzy (d8 : Byte)
  /-- `B4`, LDY zpx (R152). -/
  | ldyZpx (d8 : Byte)
  /-- `B5`, LDA zpx (R150). -/
  | ldaZpx (d8 : Byte)
  /-- `B6`, LDX zpy (R151). -/
  | ldxZpy (d8 : Byte)
  /-- `B7`, LAX zpy (R266). -/
  | laxZpy (d8 : Byte)
  /-- `B9`, LDA aby (R150). -/
  | ldaAby (a16 : Addr)
  /-- `BB`, LAS aby (R274). -/
  | las (a16 : Addr)
  /-- `BC`, LDY abx (R152). -/
  | ldyAbx (a16 : Addr)
  /-- `BD`, LDA abx (R150). -/
  | ldaAbx (a16 : Addr)
  /-- `BE`, LDX aby (R151). -/
  | ldxAby (a16 : Addr)
  /-- `BF`, LAX aby (R266). -/
  | laxAby (a16 : Addr)
  /-- `C0`, CPY imm (R188). -/
  | cpyImm (d8 : Byte)
  /-- `C1`, CMP izx (R186). -/
  | cmpIzx (d8 : Byte)
  /-- `C2`, NOP imm (R276). -/
  | nopC2 (d8 : Byte)
  /-- `C3`, DCP izx (R267). -/
  | dcpIzx (d8 : Byte)
  /-- `C4`, CPY zp (R188). -/
  | cpyZp (d8 : Byte)
  /-- `C5`, CMP zp (R186). -/
  | cmpZp (d8 : Byte)
  /-- `C6`, DEC zp (R190). -/
  | decZp (d8 : Byte)
  /-- `C7`, DCP zp (R267). -/
  | dcpZp (d8 : Byte)
  /-- `C9`, CMP imm (R186). -/
  | cmpImm (d8 : Byte)
  /-- `CB`, SBX imm (R272). -/
  | sbx (d8 : Byte)
  /-- `CC`, CPY abs (R188). -/
  | cpyAbs (a16 : Addr)
  /-- `CD`, CMP abs (R186). -/
  | cmpAbs (a16 : Addr)
  /-- `CE`, DEC abs (R190). -/
  | decAbs (a16 : Addr)
  /-- `CF`, DCP abs (R267). -/
  | dcpAbs (a16 : Addr)
  /-- `D0`, BNE rel (R231). -/
  | bne (d8 : Byte)
  /-- `D1`, CMP izy (R186). -/
  | cmpIzy (d8 : Byte)
  /-- `D3`, DCP izy (R267). -/
  | dcpIzy (d8 : Byte)
  /-- `D4`, NOP zpx (R277). -/
  | nopD4 (d8 : Byte)
  /-- `D5`, CMP zpx (R186). -/
  | cmpZpx (d8 : Byte)
  /-- `D6`, DEC zpx (R190). -/
  | decZpx (d8 : Byte)
  /-- `D7`, DCP zpx (R267). -/
  | dcpZpx (d8 : Byte)
  /-- `D9`, CMP aby (R186). -/
  | cmpAby (a16 : Addr)
  /-- `DB`, DCP aby (R267). -/
  | dcpAby (a16 : Addr)
  /-- `DC`, NOP abx (R277). -/
  | nopDC (a16 : Addr)
  /-- `DD`, CMP abx (R186). -/
  | cmpAbx (a16 : Addr)
  /-- `DE`, DEC abx (R190). -/
  | decAbx (a16 : Addr)
  /-- `DF`, DCP abx (R267). -/
  | dcpAbx (a16 : Addr)
  /-- `E0`, CPX imm (R187). -/
  | cpxImm (d8 : Byte)
  /-- `E1`, SBC izx (R185). -/
  | sbcIzx (d8 : Byte)
  /-- `E2`, NOP imm (R276). -/
  | nopE2 (d8 : Byte)
  /-- `E3`, ISC izx (R268). -/
  | iscIzx (d8 : Byte)
  /-- `E4`, CPX zp (R187). -/
  | cpxZp (d8 : Byte)
  /-- `E5`, SBC zp (R185). -/
  | sbcZp (d8 : Byte)
  /-- `E6`, INC zp (R189). -/
  | incZp (d8 : Byte)
  /-- `E7`, ISC zp (R268). -/
  | iscZp (d8 : Byte)
  /-- `E9`, SBC imm (R185). -/
  | sbcImm (d8 : Byte)
  /-- `EB`, USBC imm (R273). -/
  | usbc (d8 : Byte)
  /-- `EC`, CPX abs (R187). -/
  | cpxAbs (a16 : Addr)
  /-- `ED`, SBC abs (R185). -/
  | sbcAbs (a16 : Addr)
  /-- `EE`, INC abs (R189). -/
  | incAbs (a16 : Addr)
  /-- `EF`, ISC abs (R268). -/
  | iscAbs (a16 : Addr)
  /-- `F0`, BEQ rel (R229). -/
  | beq (d8 : Byte)
  /-- `F1`, SBC izy (R185). -/
  | sbcIzy (d8 : Byte)
  /-- `F3`, ISC izy (R268). -/
  | iscIzy (d8 : Byte)
  /-- `F4`, NOP zpx (R277). -/
  | nopF4 (d8 : Byte)
  /-- `F5`, SBC zpx (R185). -/
  | sbcZpx (d8 : Byte)
  /-- `F6`, INC zpx (R189). -/
  | incZpx (d8 : Byte)
  /-- `F7`, ISC zpx (R268). -/
  | iscZpx (d8 : Byte)
  /-- `F9`, SBC aby (R185). -/
  | sbcAby (a16 : Addr)
  /-- `FB`, ISC aby (R268). -/
  | iscAby (a16 : Addr)
  /-- `FC`, NOP abx (R277). -/
  | nopFC (a16 : Addr)
  /-- `FD`, SBC abx (R185). -/
  | sbcAbx (a16 : Addr)
  /-- `FE`, INC abx (R189). -/
  | incAbx (a16 : Addr)
  /-- `FF`, ISC abx (R268). -/
  | iscAbx (a16 : Addr)
  /-- `00`, BRK imp (R224). -/
  | brk
  /-- `02`, NOP imp (the JAM position) (R278). -/
  | nop02
  /-- `08`, PHP imp (R173). -/
  | php
  /-- `0A`, ASL acc (R204). -/
  | aslAcc
  /-- `12`, NOP imp (the JAM position) (R278). -/
  | nop12
  /-- `18`, CLC imp (R240). -/
  | clc
  /-- `1A`, NOP imp (R275). -/
  | nop1A
  /-- `22`, NOP imp (the JAM position) (R278). -/
  | nop22
  /-- `28`, PLP imp (R175). -/
  | plp
  /-- `2A`, ROL acc (R206). -/
  | rolAcc
  /-- `32`, NOP imp (the JAM position) (R278). -/
  | nop32
  /-- `38`, SEC imp (R244). -/
  | sec
  /-- `3A`, NOP imp (R275). -/
  | nop3A
  /-- `40`, RTI imp (R223). -/
  | rti
  /-- `42`, NOP imp (the JAM position) (R278). -/
  | nop42
  /-- `48`, PHA imp (R172). -/
  | pha
  /-- `4A`, LSR acc (R205). -/
  | lsrAcc
  /-- `52`, NOP imp (the JAM position) (R278). -/
  | nop52
  /-- `58`, CLI imp (R242). -/
  | cli
  /-- `5A`, NOP imp (R275). -/
  | nop5A
  /-- `60`, RTS imp (R222). -/
  | rts
  /-- `62`, NOP imp (the JAM position) (R278). -/
  | nop62
  /-- `68`, PLA imp (R174). -/
  | pla
  /-- `6A`, ROR acc (R207). -/
  | rorAcc
  /-- `72`, NOP imp (the JAM position) (R278). -/
  | nop72
  /-- `78`, SEI imp (R246). -/
  | sei
  /-- `7A`, NOP imp (R275). -/
  | nop7A
  /-- `88`, DEY imp (R192). -/
  | dey
  /-- `8A`, TXA imp (R159). -/
  | txa
  /-- `92`, NOP imp (the JAM position) (R278). -/
  | nop92
  /-- `98`, TYA imp (R161). -/
  | tya
  /-- `9A`, TXS imp (R160). -/
  | txs
  /-- `A8`, TAY imp (R157). -/
  | tay
  /-- `AA`, TAX imp (R156). -/
  | tax
  /-- `B2`, NOP imp (the JAM position) (R278). -/
  | nopB2
  /-- `B8`, CLV imp (R243). -/
  | clv
  /-- `BA`, TSX imp (R158). -/
  | tsx
  /-- `C8`, INY imp (R194). -/
  | iny
  /-- `CA`, DEX imp (R191). -/
  | dex
  /-- `D2`, NOP imp (the JAM position) (R278). -/
  | nopD2
  /-- `D8`, CLD imp (R241). -/
  | cld
  /-- `DA`, NOP imp (R275). -/
  | nopDA
  /-- `E8`, INX imp (R193). -/
  | inx
  /-- `EA`, NOP imp (R247). -/
  | nop
  /-- `F2`, NOP imp (the JAM position) (R278). -/
  | nopF2
  /-- `F8`, SED imp (R245). -/
  | sed
  /-- `FA`, NOP imp (R275). -/
  | nopFA
  deriving DecidableEq, Repr

end Sys2Proof
end

