-- ==== Sys2Proof/WellFormed.lean ====
section
/-! DEFINITION. What must hold of the data a machine is built from, and of an instruction. -/

namespace Sys2Proof

/-- An instruction is well formed: always, since "every operand byte value is legal in every mode" and no encoding
traps (30_encoding.md R109); the operand's width is its type. -/
def Instr.wellFormed (_ : Instr) : Bool := true

/-- `start ≤ end`, both in 0..0xFFFF (20_memory.md R61). -/
def BusEntry.validRange (e : BusEntry) : Bool := e.start ≤ e.stop && e.stop ≤ 0xFFFF

/-- The overlap test of `BusConstruct` (20_memory.md R61). -/
def BusEntry.overlaps (e f : BusEntry) : Bool := e.start ≤ f.stop && f.start ≤ e.stop

/-- The check of `BusConstruct` (20_memory.md R61): every range is valid and no two overlap. -/
def busEntriesValid : List BusEntry → Bool
  | [] => true
  | e :: rest => e.validRange && rest.all (fun f => !e.overlaps f) && busEntriesValid rest

/-- The types of the Machine's parameters (00_scope.md R8): a ROM image of 256 bytes, two RAM images of 4096 bytes, a
positive target frequency and a positive chunk. -/
def Params.valid (p : Params) : Bool :=
  p.romImage.length == 256 && p.ram0Init.length == 4096 && p.ram1Init.length == 4096 && decide (0 < p.targetHz)
    && decide (0 < p.chunk)

end Sys2Proof
end

