-- ==== Sys2Proof/Decode.lean ====
section
/-! DEFINITION. The decoder, total on any bytes, and the encoder. `opcodeRow` is 30_encoding.md R106 and R114: for each opcode
byte the mnemonic, the addressing mode, the base cycles, whether `+p` applies, and the instruction its operand makes. -/

namespace Sys2Proof

/-- `lo(v)` of 00_scope.md R13. -/
def lo (v : Addr) : Byte := v.extractLsb' 0 8

/-- `hi(v)` of 00_scope.md R13. -/
def hi (v : Addr) : Byte := v.extractLsb' 8 8

/-- `hi:lo` of 00_scope.md R13: the 16-bit value with the given high and low byte (little-endian order is where these
bytes lie in memory, 20_memory.md R76). -/
def join (h l : Byte) : Addr := h ++ l

/-- What the format makes of an opcode's operand bytes (30_encoding.md R101). -/
inductive Build where
  | f1 (i : Instr)
  | f2 (k : Byte → Instr)
  | f3 (k : Addr → Instr)

/-- One cell of the opcode map (30_encoding.md R106); `penalty` is its `+p`, which for `rel` stands for the branch
rule. -/
structure Row where
  mnemonic : Mnemonic
  mode : Mode
  cycles : Nat
  penalty : Bool
  build : Build

/-- Row 0x of the map of R106. -/
def opcodeRow0 : List Row := [
  ⟨.brk, .imp, 7, false, .f1 .brk⟩,
  ⟨.ora, .izx, 6, false, .f2 .oraIzx⟩,
  ⟨.nop, .imp, 2, false, .f1 .nop02⟩,
  ⟨.slo, .izx, 8, false, .f2 .sloIzx⟩,
  ⟨.nop, .zp, 3, false, .f2 .nop04⟩,
  ⟨.ora, .zp, 3, false, .f2 .oraZp⟩,
  ⟨.asl, .zp, 5, false, .f2 .aslZp⟩,
  ⟨.slo, .zp, 5, false, .f2 .sloZp⟩,
  ⟨.php, .imp, 3, false, .f1 .php⟩,
  ⟨.ora, .imm, 2, false, .f2 .oraImm⟩,
  ⟨.asl, .acc, 2, false, .f1 .aslAcc⟩,
  ⟨.anc, .imm, 2, false, .f2 .anc0B⟩,
  ⟨.nop, .abs, 4, false, .f3 .nop0C⟩,
  ⟨.ora, .abs, 4, false, .f3 .oraAbs⟩,
  ⟨.asl, .abs, 6, false, .f3 .aslAbs⟩,
  ⟨.slo, .abs, 6, false, .f3 .sloAbs⟩]

/-- Row 1x of the map of R106. -/
def opcodeRow1 : List Row := [
  ⟨.bpl, .rel, 2, true, .f2 .bpl⟩,
  ⟨.ora, .izy, 5, true, .f2 .oraIzy⟩,
  ⟨.nop, .imp, 2, false, .f1 .nop12⟩,
  ⟨.slo, .izy, 8, false, .f2 .sloIzy⟩,
  ⟨.nop, .zpx, 4, false, .f2 .nop14⟩,
  ⟨.ora, .zpx, 4, false, .f2 .oraZpx⟩,
  ⟨.asl, .zpx, 6, false, .f2 .aslZpx⟩,
  ⟨.slo, .zpx, 6, false, .f2 .sloZpx⟩,
  ⟨.clc, .imp, 2, false, .f1 .clc⟩,
  ⟨.ora, .aby, 4, true, .f3 .oraAby⟩,
  ⟨.nop, .imp, 2, false, .f1 .nop1A⟩,
  ⟨.slo, .aby, 7, false, .f3 .sloAby⟩,
  ⟨.nop, .abx, 4, true, .f3 .nop1C⟩,
  ⟨.ora, .abx, 4, true, .f3 .oraAbx⟩,
  ⟨.asl, .abx, 7, false, .f3 .aslAbx⟩,
  ⟨.slo, .abx, 7, false, .f3 .sloAbx⟩]

/-- Row 2x of the map of R106. -/
def opcodeRow2 : List Row := [
  ⟨.jsr, .abs, 6, false, .f3 .jsr⟩,
  ⟨.and, .izx, 6, false, .f2 .andIzx⟩,
  ⟨.nop, .imp, 2, false, .f1 .nop22⟩,
  ⟨.rla, .izx, 8, false, .f2 .rlaIzx⟩,
  ⟨.bit, .zp, 3, false, .f2 .bitZp⟩,
  ⟨.and, .zp, 3, false, .f2 .andZp⟩,
  ⟨.rol, .zp, 5, false, .f2 .rolZp⟩,
  ⟨.rla, .zp, 5, false, .f2 .rlaZp⟩,
  ⟨.plp, .imp, 4, false, .f1 .plp⟩,
  ⟨.and, .imm, 2, false, .f2 .andImm⟩,
  ⟨.rol, .acc, 2, false, .f1 .rolAcc⟩,
  ⟨.anc, .imm, 2, false, .f2 .anc2B⟩,
  ⟨.bit, .abs, 4, false, .f3 .bitAbs⟩,
  ⟨.and, .abs, 4, false, .f3 .andAbs⟩,
  ⟨.rol, .abs, 6, false, .f3 .rolAbs⟩,
  ⟨.rla, .abs, 6, false, .f3 .rlaAbs⟩]

/-- Row 3x of the map of R106. -/
def opcodeRow3 : List Row := [
  ⟨.bmi, .rel, 2, true, .f2 .bmi⟩,
  ⟨.and, .izy, 5, true, .f2 .andIzy⟩,
  ⟨.nop, .imp, 2, false, .f1 .nop32⟩,
  ⟨.rla, .izy, 8, false, .f2 .rlaIzy⟩,
  ⟨.nop, .zpx, 4, false, .f2 .nop34⟩,
  ⟨.and, .zpx, 4, false, .f2 .andZpx⟩,
  ⟨.rol, .zpx, 6, false, .f2 .rolZpx⟩,
  ⟨.rla, .zpx, 6, false, .f2 .rlaZpx⟩,
  ⟨.sec, .imp, 2, false, .f1 .sec⟩,
  ⟨.and, .aby, 4, true, .f3 .andAby⟩,
  ⟨.nop, .imp, 2, false, .f1 .nop3A⟩,
  ⟨.rla, .aby, 7, false, .f3 .rlaAby⟩,
  ⟨.nop, .abx, 4, true, .f3 .nop3C⟩,
  ⟨.and, .abx, 4, true, .f3 .andAbx⟩,
  ⟨.rol, .abx, 7, false, .f3 .rolAbx⟩,
  ⟨.rla, .abx, 7, false, .f3 .rlaAbx⟩]

/-- Row 4x of the map of R106. -/
def opcodeRow4 : List Row := [
  ⟨.rti, .imp, 6, false, .f1 .rti⟩,
  ⟨.eor, .izx, 6, false, .f2 .eorIzx⟩,
  ⟨.nop, .imp, 2, false, .f1 .nop42⟩,
  ⟨.sre, .izx, 8, false, .f2 .sreIzx⟩,
  ⟨.nop, .zp, 3, false, .f2 .nop44⟩,
  ⟨.eor, .zp, 3, false, .f2 .eorZp⟩,
  ⟨.lsr, .zp, 5, false, .f2 .lsrZp⟩,
  ⟨.sre, .zp, 5, false, .f2 .sreZp⟩,
  ⟨.pha, .imp, 3, false, .f1 .pha⟩,
  ⟨.eor, .imm, 2, false, .f2 .eorImm⟩,
  ⟨.lsr, .acc, 2, false, .f1 .lsrAcc⟩,
  ⟨.alr, .imm, 2, false, .f2 .alr⟩,
  ⟨.jmp, .abs, 3, false, .f3 .jmpAbs⟩,
  ⟨.eor, .abs, 4, false, .f3 .eorAbs⟩,
  ⟨.lsr, .abs, 6, false, .f3 .lsrAbs⟩,
  ⟨.sre, .abs, 6, false, .f3 .sreAbs⟩]

/-- Row 5x of the map of R106. -/
def opcodeRow5 : List Row := [
  ⟨.bvc, .rel, 2, true, .f2 .bvc⟩,
  ⟨.eor, .izy, 5, true, .f2 .eorIzy⟩,
  ⟨.nop, .imp, 2, false, .f1 .nop52⟩,
  ⟨.sre, .izy, 8, false, .f2 .sreIzy⟩,
  ⟨.nop, .zpx, 4, false, .f2 .nop54⟩,
  ⟨.eor, .zpx, 4, false, .f2 .eorZpx⟩,
  ⟨.lsr, .zpx, 6, false, .f2 .lsrZpx⟩,
  ⟨.sre, .zpx, 6, false, .f2 .sreZpx⟩,
  ⟨.cli, .imp, 2, false, .f1 .cli⟩,
  ⟨.eor, .aby, 4, true, .f3 .eorAby⟩,
  ⟨.nop, .imp, 2, false, .f1 .nop5A⟩,
  ⟨.sre, .aby, 7, false, .f3 .sreAby⟩,
  ⟨.nop, .abx, 4, true, .f3 .nop5C⟩,
  ⟨.eor, .abx, 4, true, .f3 .eorAbx⟩,
  ⟨.lsr, .abx, 7, false, .f3 .lsrAbx⟩,
  ⟨.sre, .abx, 7, false, .f3 .sreAbx⟩]

/-- Row 6x of the map of R106. -/
def opcodeRow6 : List Row := [
  ⟨.rts, .imp, 6, false, .f1 .rts⟩,
  ⟨.adc, .izx, 6, false, .f2 .adcIzx⟩,
  ⟨.nop, .imp, 2, false, .f1 .nop62⟩,
  ⟨.rra, .izx, 8, false, .f2 .rraIzx⟩,
  ⟨.nop, .zp, 3, false, .f2 .nop64⟩,
  ⟨.adc, .zp, 3, false, .f2 .adcZp⟩,
  ⟨.ror, .zp, 5, false, .f2 .rorZp⟩,
  ⟨.rra, .zp, 5, false, .f2 .rraZp⟩,
  ⟨.pla, .imp, 4, false, .f1 .pla⟩,
  ⟨.adc, .imm, 2, false, .f2 .adcImm⟩,
  ⟨.ror, .acc, 2, false, .f1 .rorAcc⟩,
  ⟨.arr, .imm, 2, false, .f2 .arr⟩,
  ⟨.jmp, .ind, 5, false, .f3 .jmpInd⟩,
  ⟨.adc, .abs, 4, false, .f3 .adcAbs⟩,
  ⟨.ror, .abs, 6, false, .f3 .rorAbs⟩,
  ⟨.rra, .abs, 6, false, .f3 .rraAbs⟩]

/-- Row 7x of the map of R106. -/
def opcodeRow7 : List Row := [
  ⟨.bvs, .rel, 2, true, .f2 .bvs⟩,
  ⟨.adc, .izy, 5, true, .f2 .adcIzy⟩,
  ⟨.nop, .imp, 2, false, .f1 .nop72⟩,
  ⟨.rra, .izy, 8, false, .f2 .rraIzy⟩,
  ⟨.nop, .zpx, 4, false, .f2 .nop74⟩,
  ⟨.adc, .zpx, 4, false, .f2 .adcZpx⟩,
  ⟨.ror, .zpx, 6, false, .f2 .rorZpx⟩,
  ⟨.rra, .zpx, 6, false, .f2 .rraZpx⟩,
  ⟨.sei, .imp, 2, false, .f1 .sei⟩,
  ⟨.adc, .aby, 4, true, .f3 .adcAby⟩,
  ⟨.nop, .imp, 2, false, .f1 .nop7A⟩,
  ⟨.rra, .aby, 7, false, .f3 .rraAby⟩,
  ⟨.nop, .abx, 4, true, .f3 .nop7C⟩,
  ⟨.adc, .abx, 4, true, .f3 .adcAbx⟩,
  ⟨.ror, .abx, 7, false, .f3 .rorAbx⟩,
  ⟨.rra, .abx, 7, false, .f3 .rraAbx⟩]

/-- Row 8x of the map of R106. -/
def opcodeRow8 : List Row := [
  ⟨.nop, .imm, 2, false, .f2 .nop80⟩,
  ⟨.sta, .izx, 6, false, .f2 .staIzx⟩,
  ⟨.nop, .imm, 2, false, .f2 .nop82⟩,
  ⟨.sax, .izx, 6, false, .f2 .saxIzx⟩,
  ⟨.sty, .zp, 3, false, .f2 .styZp⟩,
  ⟨.sta, .zp, 3, false, .f2 .staZp⟩,
  ⟨.stx, .zp, 3, false, .f2 .stxZp⟩,
  ⟨.sax, .zp, 3, false, .f2 .saxZp⟩,
  ⟨.dey, .imp, 2, false, .f1 .dey⟩,
  ⟨.nop, .imm, 2, false, .f2 .nop89⟩,
  ⟨.txa, .imp, 2, false, .f1 .txa⟩,
  ⟨.nop, .imm, 2, false, .f2 .nop8B⟩,
  ⟨.sty, .abs, 4, false, .f3 .styAbs⟩,
  ⟨.sta, .abs, 4, false, .f3 .staAbs⟩,
  ⟨.stx, .abs, 4, false, .f3 .stxAbs⟩,
  ⟨.sax, .abs, 4, false, .f3 .saxAbs⟩]

/-- Row 9x of the map of R106. -/
def opcodeRow9 : List Row := [
  ⟨.bcc, .rel, 2, true, .f2 .bcc⟩,
  ⟨.sta, .izy, 6, false, .f2 .staIzy⟩,
  ⟨.nop, .imp, 2, false, .f1 .nop92⟩,
  ⟨.nop, .izy, 6, false, .f2 .nop93⟩,
  ⟨.sty, .zpx, 4, false, .f2 .styZpx⟩,
  ⟨.sta, .zpx, 4, false, .f2 .staZpx⟩,
  ⟨.stx, .zpy, 4, false, .f2 .stxZpy⟩,
  ⟨.sax, .zpy, 4, false, .f2 .saxZpy⟩,
  ⟨.tya, .imp, 2, false, .f1 .tya⟩,
  ⟨.sta, .aby, 5, false, .f3 .staAby⟩,
  ⟨.txs, .imp, 2, false, .f1 .txs⟩,
  ⟨.nop, .aby, 5, false, .f3 .nop9B⟩,
  ⟨.nop, .abx, 5, false, .f3 .nop9C⟩,
  ⟨.sta, .abx, 5, false, .f3 .staAbx⟩,
  ⟨.nop, .aby, 5, false, .f3 .nop9E⟩,
  ⟨.nop, .aby, 5, false, .f3 .nop9F⟩]

/-- Row Ax of the map of R106. -/
def opcodeRowA : List Row := [
  ⟨.ldy, .imm, 2, false, .f2 .ldyImm⟩,
  ⟨.lda, .izx, 6, false, .f2 .ldaIzx⟩,
  ⟨.ldx, .imm, 2, false, .f2 .ldxImm⟩,
  ⟨.lax, .izx, 6, false, .f2 .laxIzx⟩,
  ⟨.ldy, .zp, 3, false, .f2 .ldyZp⟩,
  ⟨.lda, .zp, 3, false, .f2 .ldaZp⟩,
  ⟨.ldx, .zp, 3, false, .f2 .ldxZp⟩,
  ⟨.lax, .zp, 3, false, .f2 .laxZp⟩,
  ⟨.tay, .imp, 2, false, .f1 .tay⟩,
  ⟨.lda, .imm, 2, false, .f2 .ldaImm⟩,
  ⟨.tax, .imp, 2, false, .f1 .tax⟩,
  ⟨.nop, .imm, 2, false, .f2 .nopAB⟩,
  ⟨.ldy, .abs, 4, false, .f3 .ldyAbs⟩,
  ⟨.lda, .abs, 4, false, .f3 .ldaAbs⟩,
  ⟨.ldx, .abs, 4, false, .f3 .ldxAbs⟩,
  ⟨.lax, .abs, 4, false, .f3 .laxAbs⟩]

/-- Row Bx of the map of R106. -/
def opcodeRowB : List Row := [
  ⟨.bcs, .rel, 2, true, .f2 .bcs⟩,
  ⟨.lda, .izy, 5, true, .f2 .ldaIzy⟩,
  ⟨.nop, .imp, 2, false, .f1 .nopB2⟩,
  ⟨.lax, .izy, 5, true, .f2 .laxIzy⟩,
  ⟨.ldy, .zpx, 4, false, .f2 .ldyZpx⟩,
  ⟨.lda, .zpx, 4, false, .f2 .ldaZpx⟩,
  ⟨.ldx, .zpy, 4, false, .f2 .ldxZpy⟩,
  ⟨.lax, .zpy, 4, false, .f2 .laxZpy⟩,
  ⟨.clv, .imp, 2, false, .f1 .clv⟩,
  ⟨.lda, .aby, 4, true, .f3 .ldaAby⟩,
  ⟨.tsx, .imp, 2, false, .f1 .tsx⟩,
  ⟨.las, .aby, 4, true, .f3 .las⟩,
  ⟨.ldy, .abx, 4, true, .f3 .ldyAbx⟩,
  ⟨.lda, .abx, 4, true, .f3 .ldaAbx⟩,
  ⟨.ldx, .aby, 4, true, .f3 .ldxAby⟩,
  ⟨.lax, .aby, 4, true, .f3 .laxAby⟩]

/-- Row Cx of the map of R106. -/
def opcodeRowC : List Row := [
  ⟨.cpy, .imm, 2, false, .f2 .cpyImm⟩,
  ⟨.cmp, .izx, 6, false, .f2 .cmpIzx⟩,
  ⟨.nop, .imm, 2, false, .f2 .nopC2⟩,
  ⟨.dcp, .izx, 8, false, .f2 .dcpIzx⟩,
  ⟨.cpy, .zp, 3, false, .f2 .cpyZp⟩,
  ⟨.cmp, .zp, 3, false, .f2 .cmpZp⟩,
  ⟨.dec, .zp, 5, false, .f2 .decZp⟩,
  ⟨.dcp, .zp, 5, false, .f2 .dcpZp⟩,
  ⟨.iny, .imp, 2, false, .f1 .iny⟩,
  ⟨.cmp, .imm, 2, false, .f2 .cmpImm⟩,
  ⟨.dex, .imp, 2, false, .f1 .dex⟩,
  ⟨.sbx, .imm, 2, false, .f2 .sbx⟩,
  ⟨.cpy, .abs, 4, false, .f3 .cpyAbs⟩,
  ⟨.cmp, .abs, 4, false, .f3 .cmpAbs⟩,
  ⟨.dec, .abs, 6, false, .f3 .decAbs⟩,
  ⟨.dcp, .abs, 6, false, .f3 .dcpAbs⟩]

/-- Row Dx of the map of R106. -/
def opcodeRowD : List Row := [
  ⟨.bne, .rel, 2, true, .f2 .bne⟩,
  ⟨.cmp, .izy, 5, true, .f2 .cmpIzy⟩,
  ⟨.nop, .imp, 2, false, .f1 .nopD2⟩,
  ⟨.dcp, .izy, 8, false, .f2 .dcpIzy⟩,
  ⟨.nop, .zpx, 4, false, .f2 .nopD4⟩,
  ⟨.cmp, .zpx, 4, false, .f2 .cmpZpx⟩,
  ⟨.dec, .zpx, 6, false, .f2 .decZpx⟩,
  ⟨.dcp, .zpx, 6, false, .f2 .dcpZpx⟩,
  ⟨.cld, .imp, 2, false, .f1 .cld⟩,
  ⟨.cmp, .aby, 4, true, .f3 .cmpAby⟩,
  ⟨.nop, .imp, 2, false, .f1 .nopDA⟩,
  ⟨.dcp, .aby, 7, false, .f3 .dcpAby⟩,
  ⟨.nop, .abx, 4, true, .f3 .nopDC⟩,
  ⟨.cmp, .abx, 4, true, .f3 .cmpAbx⟩,
  ⟨.dec, .abx, 7, false, .f3 .decAbx⟩,
  ⟨.dcp, .abx, 7, false, .f3 .dcpAbx⟩]

/-- Row Ex of the map of R106. -/
def opcodeRowE : List Row := [
  ⟨.cpx, .imm, 2, false, .f2 .cpxImm⟩,
  ⟨.sbc, .izx, 6, false, .f2 .sbcIzx⟩,
  ⟨.nop, .imm, 2, false, .f2 .nopE2⟩,
  ⟨.isc, .izx, 8, false, .f2 .iscIzx⟩,
  ⟨.cpx, .zp, 3, false, .f2 .cpxZp⟩,
  ⟨.sbc, .zp, 3, false, .f2 .sbcZp⟩,
  ⟨.inc, .zp, 5, false, .f2 .incZp⟩,
  ⟨.isc, .zp, 5, false, .f2 .iscZp⟩,
  ⟨.inx, .imp, 2, false, .f1 .inx⟩,
  ⟨.sbc, .imm, 2, false, .f2 .sbcImm⟩,
  ⟨.nop, .imp, 2, false, .f1 .nop⟩,
  ⟨.usbc, .imm, 2, false, .f2 .usbc⟩,
  ⟨.cpx, .abs, 4, false, .f3 .cpxAbs⟩,
  ⟨.sbc, .abs, 4, false, .f3 .sbcAbs⟩,
  ⟨.inc, .abs, 6, false, .f3 .incAbs⟩,
  ⟨.isc, .abs, 6, false, .f3 .iscAbs⟩]

/-- Row Fx of the map of R106. -/
def opcodeRowF : List Row := [
  ⟨.beq, .rel, 2, true, .f2 .beq⟩,
  ⟨.sbc, .izy, 5, true, .f2 .sbcIzy⟩,
  ⟨.nop, .imp, 2, false, .f1 .nopF2⟩,
  ⟨.isc, .izy, 8, false, .f2 .iscIzy⟩,
  ⟨.nop, .zpx, 4, false, .f2 .nopF4⟩,
  ⟨.sbc, .zpx, 4, false, .f2 .sbcZpx⟩,
  ⟨.inc, .zpx, 6, false, .f2 .incZpx⟩,
  ⟨.isc, .zpx, 6, false, .f2 .iscZpx⟩,
  ⟨.sed, .imp, 2, false, .f1 .sed⟩,
  ⟨.sbc, .aby, 4, true, .f3 .sbcAby⟩,
  ⟨.nop, .imp, 2, false, .f1 .nopFA⟩,
  ⟨.isc, .aby, 7, false, .f3 .iscAby⟩,
  ⟨.nop, .abx, 4, true, .f3 .nopFC⟩,
  ⟨.sbc, .abx, 4, true, .f3 .sbcAbx⟩,
  ⟨.inc, .abx, 7, false, .f3 .incAbx⟩,
  ⟨.isc, .abx, 7, false, .f3 .iscAbx⟩]

/-- The sixteen rows of the map, high nibble 0 first. -/
def opcodeMap : List (List Row) := [
  opcodeRow0, opcodeRow1, opcodeRow2, opcodeRow3, opcodeRow4, opcodeRow5, opcodeRow6, opcodeRow7, opcodeRow8, opcodeRow9, opcodeRowA, opcodeRowB, opcodeRowC, opcodeRowD, opcodeRowE, opcodeRowF]

/-- The cell of R106 of an opcode byte. Every byte has one (R100), so the default is never used. -/
def rowOf (op : Byte) : Row :=
  ((opcodeMap.getD (op.toNat / 16) []).getD (op.toNat % 16) ⟨.nop, .imp, 2, false, .f1 .nop⟩)

/-- The names under which `decode` rejects bytes. No opcode is rejected (R109): only an instruction that is cut off. -/
inductive DecodeRefusal where
  /-- There is no byte at all. -/
  | noOpcode
  /-- The bytes end before the instruction does. -/
  | noOperand
  deriving DecidableEq, Repr

/-- Reads one instruction from the front of a byte string, and gives the bytes after it (30_encoding.md R100–R104): the opcode byte
alone selects the length, and a 16-bit operand has its low byte first. -/
def decode : List Byte → Except DecodeRefusal (Instr × List Byte)
  | [] => .error .noOpcode
  | op :: rest =>
    match (rowOf op).build with
    | .f1 i => .ok (i, rest)
    | .f2 k =>
      match rest with
      | d8 :: rest => .ok (k d8, rest)
      | [] => .error .noOperand
    | .f3 k =>
      match rest with
      | l :: h :: rest => .ok (k (join h l), rest)
      | _ => .error .noOperand

/-- The bytes of an instruction, written from the opcode bytes of 30_encoding.md R107 and 46_undocumented.md R260. -/
def encode : Instr → List Byte
  | .brk => [0x00]
  | .oraIzx d8 => [0x01, d8]
  | .nop02 => [0x02]
  | .sloIzx d8 => [0x03, d8]
  | .nop04 d8 => [0x04, d8]
  | .oraZp d8 => [0x05, d8]
  | .aslZp d8 => [0x06, d8]
  | .sloZp d8 => [0x07, d8]
  | .php => [0x08]
  | .oraImm d8 => [0x09, d8]
  | .aslAcc => [0x0A]
  | .anc0B d8 => [0x0B, d8]
  | .nop0C a16 => [0x0C, lo a16, hi a16]
  | .oraAbs a16 => [0x0D, lo a16, hi a16]
  | .aslAbs a16 => [0x0E, lo a16, hi a16]
  | .sloAbs a16 => [0x0F, lo a16, hi a16]
  | .bpl d8 => [0x10, d8]
  | .oraIzy d8 => [0x11, d8]
  | .nop12 => [0x12]
  | .sloIzy d8 => [0x13, d8]
  | .nop14 d8 => [0x14, d8]
  | .oraZpx d8 => [0x15, d8]
  | .aslZpx d8 => [0x16, d8]
  | .sloZpx d8 => [0x17, d8]
  | .clc => [0x18]
  | .oraAby a16 => [0x19, lo a16, hi a16]
  | .nop1A => [0x1A]
  | .sloAby a16 => [0x1B, lo a16, hi a16]
  | .nop1C a16 => [0x1C, lo a16, hi a16]
  | .oraAbx a16 => [0x1D, lo a16, hi a16]
  | .aslAbx a16 => [0x1E, lo a16, hi a16]
  | .sloAbx a16 => [0x1F, lo a16, hi a16]
  | .jsr a16 => [0x20, lo a16, hi a16]
  | .andIzx d8 => [0x21, d8]
  | .nop22 => [0x22]
  | .rlaIzx d8 => [0x23, d8]
  | .bitZp d8 => [0x24, d8]
  | .andZp d8 => [0x25, d8]
  | .rolZp d8 => [0x26, d8]
  | .rlaZp d8 => [0x27, d8]
  | .plp => [0x28]
  | .andImm d8 => [0x29, d8]
  | .rolAcc => [0x2A]
  | .anc2B d8 => [0x2B, d8]
  | .bitAbs a16 => [0x2C, lo a16, hi a16]
  | .andAbs a16 => [0x2D, lo a16, hi a16]
  | .rolAbs a16 => [0x2E, lo a16, hi a16]
  | .rlaAbs a16 => [0x2F, lo a16, hi a16]
  | .bmi d8 => [0x30, d8]
  | .andIzy d8 => [0x31, d8]
  | .nop32 => [0x32]
  | .rlaIzy d8 => [0x33, d8]
  | .nop34 d8 => [0x34, d8]
  | .andZpx d8 => [0x35, d8]
  | .rolZpx d8 => [0x36, d8]
  | .rlaZpx d8 => [0x37, d8]
  | .sec => [0x38]
  | .andAby a16 => [0x39, lo a16, hi a16]
  | .nop3A => [0x3A]
  | .rlaAby a16 => [0x3B, lo a16, hi a16]
  | .nop3C a16 => [0x3C, lo a16, hi a16]
  | .andAbx a16 => [0x3D, lo a16, hi a16]
  | .rolAbx a16 => [0x3E, lo a16, hi a16]
  | .rlaAbx a16 => [0x3F, lo a16, hi a16]
  | .rti => [0x40]
  | .eorIzx d8 => [0x41, d8]
  | .nop42 => [0x42]
  | .sreIzx d8 => [0x43, d8]
  | .nop44 d8 => [0x44, d8]
  | .eorZp d8 => [0x45, d8]
  | .lsrZp d8 => [0x46, d8]
  | .sreZp d8 => [0x47, d8]
  | .pha => [0x48]
  | .eorImm d8 => [0x49, d8]
  | .lsrAcc => [0x4A]
  | .alr d8 => [0x4B, d8]
  | .jmpAbs a16 => [0x4C, lo a16, hi a16]
  | .eorAbs a16 => [0x4D, lo a16, hi a16]
  | .lsrAbs a16 => [0x4E, lo a16, hi a16]
  | .sreAbs a16 => [0x4F, lo a16, hi a16]
  | .bvc d8 => [0x50, d8]
  | .eorIzy d8 => [0x51, d8]
  | .nop52 => [0x52]
  | .sreIzy d8 => [0x53, d8]
  | .nop54 d8 => [0x54, d8]
  | .eorZpx d8 => [0x55, d8]
  | .lsrZpx d8 => [0x56, d8]
  | .sreZpx d8 => [0x57, d8]
  | .cli => [0x58]
  | .eorAby a16 => [0x59, lo a16, hi a16]
  | .nop5A => [0x5A]
  | .sreAby a16 => [0x5B, lo a16, hi a16]
  | .nop5C a16 => [0x5C, lo a16, hi a16]
  | .eorAbx a16 => [0x5D, lo a16, hi a16]
  | .lsrAbx a16 => [0x5E, lo a16, hi a16]
  | .sreAbx a16 => [0x5F, lo a16, hi a16]
  | .rts => [0x60]
  | .adcIzx d8 => [0x61, d8]
  | .nop62 => [0x62]
  | .rraIzx d8 => [0x63, d8]
  | .nop64 d8 => [0x64, d8]
  | .adcZp d8 => [0x65, d8]
  | .rorZp d8 => [0x66, d8]
  | .rraZp d8 => [0x67, d8]
  | .pla => [0x68]
  | .adcImm d8 => [0x69, d8]
  | .rorAcc => [0x6A]
  | .arr d8 => [0x6B, d8]
  | .jmpInd a16 => [0x6C, lo a16, hi a16]
  | .adcAbs a16 => [0x6D, lo a16, hi a16]
  | .rorAbs a16 => [0x6E, lo a16, hi a16]
  | .rraAbs a16 => [0x6F, lo a16, hi a16]
  | .bvs d8 => [0x70, d8]
  | .adcIzy d8 => [0x71, d8]
  | .nop72 => [0x72]
  | .rraIzy d8 => [0x73, d8]
  | .nop74 d8 => [0x74, d8]
  | .adcZpx d8 => [0x75, d8]
  | .rorZpx d8 => [0x76, d8]
  | .rraZpx d8 => [0x77, d8]
  | .sei => [0x78]
  | .adcAby a16 => [0x79, lo a16, hi a16]
  | .nop7A => [0x7A]
  | .rraAby a16 => [0x7B, lo a16, hi a16]
  | .nop7C a16 => [0x7C, lo a16, hi a16]
  | .adcAbx a16 => [0x7D, lo a16, hi a16]
  | .rorAbx a16 => [0x7E, lo a16, hi a16]
  | .rraAbx a16 => [0x7F, lo a16, hi a16]
  | .nop80 d8 => [0x80, d8]
  | .staIzx d8 => [0x81, d8]
  | .nop82 d8 => [0x82, d8]
  | .saxIzx d8 => [0x83, d8]
  | .styZp d8 => [0x84, d8]
  | .staZp d8 => [0x85, d8]
  | .stxZp d8 => [0x86, d8]
  | .saxZp d8 => [0x87, d8]
  | .dey => [0x88]
  | .nop89 d8 => [0x89, d8]
  | .txa => [0x8A]
  | .nop8B d8 => [0x8B, d8]
  | .styAbs a16 => [0x8C, lo a16, hi a16]
  | .staAbs a16 => [0x8D, lo a16, hi a16]
  | .stxAbs a16 => [0x8E, lo a16, hi a16]
  | .saxAbs a16 => [0x8F, lo a16, hi a16]
  | .bcc d8 => [0x90, d8]
  | .staIzy d8 => [0x91, d8]
  | .nop92 => [0x92]
  | .nop93 d8 => [0x93, d8]
  | .styZpx d8 => [0x94, d8]
  | .staZpx d8 => [0x95, d8]
  | .stxZpy d8 => [0x96, d8]
  | .saxZpy d8 => [0x97, d8]
  | .tya => [0x98]
  | .staAby a16 => [0x99, lo a16, hi a16]
  | .txs => [0x9A]
  | .nop9B a16 => [0x9B, lo a16, hi a16]
  | .nop9C a16 => [0x9C, lo a16, hi a16]
  | .staAbx a16 => [0x9D, lo a16, hi a16]
  | .nop9E a16 => [0x9E, lo a16, hi a16]
  | .nop9F a16 => [0x9F, lo a16, hi a16]
  | .ldyImm d8 => [0xA0, d8]
  | .ldaIzx d8 => [0xA1, d8]
  | .ldxImm d8 => [0xA2, d8]
  | .laxIzx d8 => [0xA3, d8]
  | .ldyZp d8 => [0xA4, d8]
  | .ldaZp d8 => [0xA5, d8]
  | .ldxZp d8 => [0xA6, d8]
  | .laxZp d8 => [0xA7, d8]
  | .tay => [0xA8]
  | .ldaImm d8 => [0xA9, d8]
  | .tax => [0xAA]
  | .nopAB d8 => [0xAB, d8]
  | .ldyAbs a16 => [0xAC, lo a16, hi a16]
  | .ldaAbs a16 => [0xAD, lo a16, hi a16]
  | .ldxAbs a16 => [0xAE, lo a16, hi a16]
  | .laxAbs a16 => [0xAF, lo a16, hi a16]
  | .bcs d8 => [0xB0, d8]
  | .ldaIzy d8 => [0xB1, d8]
  | .nopB2 => [0xB2]
  | .laxIzy d8 => [0xB3, d8]
  | .ldyZpx d8 => [0xB4, d8]
  | .ldaZpx d8 => [0xB5, d8]
  | .ldxZpy d8 => [0xB6, d8]
  | .laxZpy d8 => [0xB7, d8]
  | .clv => [0xB8]
  | .ldaAby a16 => [0xB9, lo a16, hi a16]
  | .tsx => [0xBA]
  | .las a16 => [0xBB, lo a16, hi a16]
  | .ldyAbx a16 => [0xBC, lo a16, hi a16]
  | .ldaAbx a16 => [0xBD, lo a16, hi a16]
  | .ldxAby a16 => [0xBE, lo a16, hi a16]
  | .laxAby a16 => [0xBF, lo a16, hi a16]
  | .cpyImm d8 => [0xC0, d8]
  | .cmpIzx d8 => [0xC1, d8]
  | .nopC2 d8 => [0xC2, d8]
  | .dcpIzx d8 => [0xC3, d8]
  | .cpyZp d8 => [0xC4, d8]
  | .cmpZp d8 => [0xC5, d8]
  | .decZp d8 => [0xC6, d8]
  | .dcpZp d8 => [0xC7, d8]
  | .iny => [0xC8]
  | .cmpImm d8 => [0xC9, d8]
  | .dex => [0xCA]
  | .sbx d8 => [0xCB, d8]
  | .cpyAbs a16 => [0xCC, lo a16, hi a16]
  | .cmpAbs a16 => [0xCD, lo a16, hi a16]
  | .decAbs a16 => [0xCE, lo a16, hi a16]
  | .dcpAbs a16 => [0xCF, lo a16, hi a16]
  | .bne d8 => [0xD0, d8]
  | .cmpIzy d8 => [0xD1, d8]
  | .nopD2 => [0xD2]
  | .dcpIzy d8 => [0xD3, d8]
  | .nopD4 d8 => [0xD4, d8]
  | .cmpZpx d8 => [0xD5, d8]
  | .decZpx d8 => [0xD6, d8]
  | .dcpZpx d8 => [0xD7, d8]
  | .cld => [0xD8]
  | .cmpAby a16 => [0xD9, lo a16, hi a16]
  | .nopDA => [0xDA]
  | .dcpAby a16 => [0xDB, lo a16, hi a16]
  | .nopDC a16 => [0xDC, lo a16, hi a16]
  | .cmpAbx a16 => [0xDD, lo a16, hi a16]
  | .decAbx a16 => [0xDE, lo a16, hi a16]
  | .dcpAbx a16 => [0xDF, lo a16, hi a16]
  | .cpxImm d8 => [0xE0, d8]
  | .sbcIzx d8 => [0xE1, d8]
  | .nopE2 d8 => [0xE2, d8]
  | .iscIzx d8 => [0xE3, d8]
  | .cpxZp d8 => [0xE4, d8]
  | .sbcZp d8 => [0xE5, d8]
  | .incZp d8 => [0xE6, d8]
  | .iscZp d8 => [0xE7, d8]
  | .inx => [0xE8]
  | .sbcImm d8 => [0xE9, d8]
  | .nop => [0xEA]
  | .usbc d8 => [0xEB, d8]
  | .cpxAbs a16 => [0xEC, lo a16, hi a16]
  | .sbcAbs a16 => [0xED, lo a16, hi a16]
  | .incAbs a16 => [0xEE, lo a16, hi a16]
  | .iscAbs a16 => [0xEF, lo a16, hi a16]
  | .beq d8 => [0xF0, d8]
  | .sbcIzy d8 => [0xF1, d8]
  | .nopF2 => [0xF2]
  | .iscIzy d8 => [0xF3, d8]
  | .nopF4 d8 => [0xF4, d8]
  | .sbcZpx d8 => [0xF5, d8]
  | .incZpx d8 => [0xF6, d8]
  | .iscZpx d8 => [0xF7, d8]
  | .sed => [0xF8]
  | .sbcAby a16 => [0xF9, lo a16, hi a16]
  | .nopFA => [0xFA]
  | .iscAby a16 => [0xFB, lo a16, hi a16]
  | .nopFC a16 => [0xFC, lo a16, hi a16]
  | .sbcAbx a16 => [0xFD, lo a16, hi a16]
  | .incAbx a16 => [0xFE, lo a16, hi a16]
  | .iscAbx a16 => [0xFF, lo a16, hi a16]

/-- The opcode byte of an instruction (its byte 0, R101). -/
def Instr.opcode (i : Instr) : Byte := (encode i).headD 0

/-- The cell of R106 of an instruction. -/
def Instr.row (i : Instr) : Row := rowOf i.opcode

/-- The mnemonic of an instruction, as R106 has it. -/
def Instr.mnemonic (i : Instr) : Mnemonic := i.row.mnemonic

/-- The addressing mode of an instruction, as R106 has it. -/
def Instr.mode (i : Instr) : Mode := i.row.mode

/-- The instruction length of an addressing mode (30_encoding.md R102). -/
def Mode.length : Mode → Nat
  | .imp => 1 | .acc => 1 | .imm => 2 | .zp => 2 | .zpx => 2 | .zpy => 2 | .abs => 3 | .abx => 3 | .aby => 3
  | .ind => 3 | .izx => 2 | .izy => 2 | .rel => 2

/-- All 256 opcode bytes in order. -/
def allOpcodes : List Byte := (List.range 256).map (BitVec.ofNat 8)

/-- One encoding of an instruction as the "Encoding" line of its rule lists it: opcode byte, mode, length in bytes, base
cycles, and whether `+p` is written behind them (00_scope.md R17). -/
structure Encoding where
  opcode : Byte
  mode : Mode
  length : Nat
  cycles : Nat
  penalty : Bool
  deriving DecidableEq, Repr

/-- The encodings of a mnemonic that the decoder knows, in the order of their opcode bytes. -/
def encodingsOf (m : Mnemonic) : List Encoding :=
  (allOpcodes.filter fun op => (rowOf op).mnemonic = m).map fun op =>
    ⟨op, (rowOf op).mode, (rowOf op).mode.length, (rowOf op).cycles, (rowOf op).penalty⟩

/-- The instruction the decoder reads from `nbits` bits `w` of the opcode table: byte 0 of the instruction is bits 7..0, byte 1 bits
15..8, byte 2 bits 23..16, and every bit above `nbits` is 0. -/
def decodeTableWord (nbits w : Nat) : Option Instr :=
  let v := w % 2 ^ nbits
  match decode [BitVec.ofNat 8 v, BitVec.ofNat 8 (v / 256), BitVec.ofNat 8 (v / 65536)] with
  | .ok r => some r.1
  | .error _ => none

end Sys2Proof
end

