-- ==== Sys2Proof/Machine/State.lean ====
section
/-! DEFINITION. The state of the machine as plain data (10_state.md), the actions of its agents, the reasons a step can
stop, and the state right after reset. -/

namespace Sys2Proof.Machine

/-- The six flags, each one bit, stored separately (10_state.md R26); there is no B flag and no bit 5. -/
structure Flags where
  n : Bool
  v : Bool
  d : Bool
  i : Bool
  z : Bool
  c : Bool
  deriving DecidableEq, Repr

/-- The interrupt-input state of the CPU (10_state.md R35). -/
structure Inputs where
  irqLine : Bool
  nmiLine : Bool
  nmiPending : Bool
  deriving DecidableEq, Repr

/-- The execution hook `u16 -> Bool` as the engine builds it (60_exceptions.md R384): absent, `BreakpointHook(set)`, or
`RunToHook(target, set)`. Any function on `u16` is the breakpoint hook of the addresses it halts on (log 11). -/
inductive Hook where
  | absent
  | breakpoint (set : List Addr)
  | runTo (target : Addr) (set : List Addr)
  deriving DecidableEq, Repr

/-- One port of the PIA (10_state.md R41–R45): the data register (`ORA` or `ORB`), the direction register (`DDRA` or `DDRB`), the
control register (`CRA` or `CRB`), the levels of its two control lines and their previous-value shadows. -/
structure Port where
  output : Byte
  ddr : Byte
  control : Byte
  c1 : Bool
  c2 : Bool
  prevC1 : Bool
  prevC2 : Bool
  deriving DecidableEq, Repr

/-- The PIA6820 (10_state.md R40): two ports, the port-B bit-7 override (R46) and the pending notification (R47). -/
structure Pia where
  portA : Port
  portB : Port
  pb7Override : Bool
  notifyPending : Bool
  deriving DecidableEq, Repr

/-- The Clock (10_state.md R53). Times are in wall-clock seconds; the anchors are unset until `Resume` or `ResetTiming`
takes one (R56). Real numbers are written as rationals (log 12). -/
structure Clock where
  targetHz : Rat
  chunk : Nat
  paused : Bool
  drift : Rat
  cycleAccurate : Bool
  anchorTime : Option Rat
  anchorCycles : Option Nat
  deriving DecidableEq, Repr

/-- The parameters a running machine reads (00_scope.md R8), constant for its life: `PIA_IRQ_WIRED`,
`HOST_READ_SIDE_EFFECTS`, and the model's own `cpuAlone`, for the "CPU modelled standing alone" of 60_exceptions.md R302 whose
interrupt inputs the agenda drives instead of the Machine's wiring (log 5). -/
structure Wiring where
  piaIrqWired : Bool
  hostReadSideEffects : Bool
  cpuAlone : Bool
  deriving DecidableEq, Repr

/-- The stored bytes of the address space: `(address, byte)` pairs, addresses strictly rising, none equal to
`Config.unlistedByte`, all of them inside RAM0, RAM1 or ROM (`Memory.wf`). -/
abbrev Memory := List Host.Cell

/-- The two ports of the PIA. -/
inductive PortName where
  | a
  | b
  deriving DecidableEq, Repr

/-- The two control lines of a port: `C1` and `C2`. -/
inductive LineName where
  | c1
  | c2
  deriving DecidableEq, Repr

/-- What the machine does to its devices (the output history): a byte handed to a port's sink (60_exceptions.md R351), and the
devices' `reset()`, called by the Machine's reset (R346, 70_reset_and_hazards.md R401; log 15). -/
inductive DeviceEvent where
  | sinkWrite (port : PortName) (v : Byte)
  | deviceReset
  deriving DecidableEq, Repr

/-- The version tag of a snapshot: this implementation's own, or another (60_exceptions.md R385; log 10). -/
inductive SnapshotVersion where
  | current
  | other (tag : Nat)
  deriving DecidableEq, Repr

/-- A snapshot: the contents 60_exceptions.md R385 lists. `ram` holds the two RAM banks in the memory's canonical form; a
port's lines and shadows are in its `Port`. -/
structure Snapshot where
  version : SnapshotVersion
  a : Byte
  x : Byte
  y : Byte
  sp : Byte
  pc : Addr
  flags : Flags
  cycles : Nat
  ram : Memory
  portA : Port
  portB : Port
  pb7Override : Bool
  deriving DecidableEq, Repr

/-- What a `Log` event is about (60_exceptions.md R351, R387); the texts are not the spec's. -/
inductive LogText where
  | sinkFailed (port : PortName)
  | writeRejected (addr val : Int)
  deriving DecidableEq, Repr

/-- The events from the machine to the host (60_exceptions.md R388), and the answers of `SaveState` and `HostRead`
(R385, R387; log 14). -/
inductive HostEvent where
  | status (paused : Bool) (pc : Addr) (cycles : Nat)
  | hookHalted (pc : Addr)
  | log (text : LogText)
  | fault
  | deviceUpdate (pia : Pia)
  | saved (snap : Snapshot)
  | readReply (start : Int) (bytes : List Byte)
  deriving DecidableEq, Repr

/-- The actions of the devices (60_exceptions.md R340–R345), and a sink reporting that its asynchronous result failed
(R351; log 16). A level is `true` for high (R340: any non-zero argument counts as 1). -/
inductive DeviceAction where
  | setCA1 (level : Bool)
  | setCA2 (level : Bool)
  | setCB1 (level : Bool)
  | setCB2 (level : Bool)
  | setPB7Override (active : Bool)
  | portAInput (v : Byte)
  | sinkFailed (port : PortName)
  deriving DecidableEq, Repr

/-- The actions of the host (60_exceptions.md R380). `now` is the wall-clock time the action reads (R364, R365). -/
inductive HostAction where
  | pause
  | resume (now : Rat)
  | stepOne
  | reset
  | setHook (h : Hook)
  | setCycleAccurate (flag : Bool)
  | saveState
  | loadState (snap : Snapshot) (now : Rat)
  | hostRead (start : Int) (len : Nat)
  | hostWrite (addr val : Int)
  deriving DecidableEq, Repr

/-- One entry of the agenda: an action of an agent other than the CPU, or the start of a quantum of at most `n` steps
(60_exceptions.md R361). The interrupt-line turns are `SetIrqLine` and `SetNmiLine` of R302 for a CPU standing alone; `measure` is the
Scheduler's wall-clock measurement, which adds to `drift` (R362). -/
inductive Turn where
  | quantum (n : Nat)
  | device (act : DeviceAction)
  | host (act : HostAction)
  | setIrqLine (level : Bool)
  | setNmiLine (level : Bool)
  | measure (difference : Rat)
  deriving DecidableEq, Repr

/-- The whole state. The comment of a field names the rule that gives it; `agenda`, `quantumLeft` and `freeCount` are the
model's own (logs 6, 8, 9). -/
structure State where
  /-- `A`, R21. -/
  a : Byte
  /-- `X`, R22. -/
  x : Byte
  /-- `Y`, R23. -/
  y : Byte
  /-- `S`, R24. -/
  sp : Byte
  /-- `PC`, R25. -/
  pc : Addr
  /-- `N V D I Z C`, R26. -/
  flags : Flags
  /-- `cycles`, R30. -/
  cycles : Nat
  /-- `opcode`, R31. -/
  opcode : Byte
  /-- `irq_line`, `nmi_line`, `nmi_pending`, R35. -/
  inputs : Inputs
  /-- `HOOK`, R34. -/
  hook : Hook
  /-- The PIA, R40. -/
  pia : Pia
  /-- The Clock, R53. -/
  clock : Clock
  /-- RAM and ROM, R50, R51. -/
  mem : Memory
  /-- `faulted`, R54. -/
  faulted : Bool
  /-- The output history, oldest first, R48 and 60_exceptions.md R351. -/
  output : List DeviceEvent
  /-- The events to the host, oldest first, 60_exceptions.md R388. -/
  hostEvents : List HostEvent
  /-- The machine's parameters, 00_scope.md R8. -/
  wiring : Wiring
  /-- Who acts next when no quantum is in progress, 00_scope.md R11. -/
  agenda : List Turn
  /-- The CPU steps left in the quantum in progress, 60_exceptions.md R361; 0 between quanta. -/
  quantumLeft : Nat
  /-- How many free values have been used. -/
  freeCount : Nat
  deriving DecidableEq, Repr

/-- The faults. Neither is ever an outcome of `step`. -/
inductive Fault where
  /-- `ConfigError` (20_memory.md R61): answered by `busConstruct` and `machineConstruct` for an invalid list of Bus entries or invalid
  parameters. Safe: no machine exists. -/
  | configError
  /-- A component that throws inside a CPU step (20_memory.md R68, 60_exceptions.md R368): raised by nobody, because no component of
  the fixed Machine can fail; the Scheduler would turn it into `faulted`. Safe. -/
  | machineFault
  deriving DecidableEq, Repr

/-- The refusals. -/
inductive Refusal where
  /-- An instruction without a meaning, raised by `exec` alone; no arm does. Safe. -/
  | notModelled (mnemonic : String)
  /-- The bytes fetched are no whole instruction: raised by `cpuStep`, and never, since the fetch reads as many bytes as
  the opcode's format has. Safe. -/
  | truncatedFetch
  deriving DecidableEq, Repr

/-- What a meaning answers. -/
abbrev Result := Host.Outcome State Fault Refusal

/-- All flags 0 (10_state.md R57). -/
def Flags.cleared : Flags := ⟨false, false, false, false, false, false⟩

/-- A port after `PiaReset` (70_reset_and_hazards.md R402). -/
def Port.cleared : Port := ⟨0, 0, 0, false, false, false, false⟩

/-- The machine right after `MachineConstruct`, which ends in `MachineReset` (70_reset_and_hazards.md R401, 10_state.md R56–R59), built
with both images all zero (log 1), `CHUNK` = 1 and `TARGET_HZ` = 1 (log 2), `PIA_IRQ_WIRED` at its default false (log 3) and
`HOST_READ_SIDE_EFFECTS` false (log 4). `PC` is `Read16(0xFFFC)` over that image; the Clock is paused (R56), so the CPU first
steps after a host's `Resume` or `StepOne` (log 7). -/
def State.reset : State where
  a := 0
  x := 0
  y := 0
  sp := 0
  pc := 0
  flags := Flags.cleared
  cycles := 0
  opcode := 0
  inputs := ⟨false, false, false⟩
  hook := .absent
  pia := ⟨Port.cleared, Port.cleared, false, false⟩
  clock := ⟨1, 1, true, 0, false, none, none⟩
  mem := []
  faulted := false
  output := [.deviceReset]
  hostEvents := []
  wiring := ⟨false, false, false⟩
  agenda := []
  quantumLeft := 0
  freeCount := 0

end Sys2Proof.Machine
end

