-- ==== Sys2Proof/Machine/Memory.lean ====
section
/-! DEFINITION. The stored bytes: reading, writing, the canonical form, and which addresses hold a byte at all. -/

namespace Sys2Proof.Machine

/-- An address of RAM0 or RAM1 (10_state.md R50). -/
def isRam (a : Nat) : Bool := a ≤ 0x0FFF || (0xE000 ≤ a && a ≤ 0xEFFF)

/-- An address of the ROM (10_state.md R51). -/
def isRom (a : Nat) : Bool := 0xFF00 ≤ a && a ≤ 0xFFFF

/-- An address that holds a byte. -/
def isStored (a : Nat) : Bool := isRam a || isRom a

/-- The byte stored at an address; an address the list does not hold reads as `Config.unlistedByte` (20_memory.md R65; log 1). -/
def Memory.read : Memory → Nat → Byte
  | [], _ => Config.unlistedByte
  | c :: rest, a => if c.1 = a then c.2 else Memory.read rest a

/-- Puts a pair in its place by address. -/
def Memory.insert (a : Nat) (v : Byte) : Memory → Memory
  | [] => [(a, v)]
  | c :: rest => if a < c.1 then (a, v) :: c :: rest else c :: Memory.insert a v rest

/-- Stores a byte (20_memory.md R65). Writing what an unlisted address reads as removes the entry, so that equal memories
are equal lists. -/
def Memory.write (m : Memory) (a : Nat) (v : Byte) : Memory :=
  let others := m.filter (fun c => c.1 != a)
  if v = Config.unlistedByte then others else Memory.insert a v others

/-- Addresses strictly rising from above `low` (`none`: from anywhere). -/
def Memory.rising : Option Nat → Memory → Bool
  | _, [] => true
  | none, c :: rest => Memory.rising (some c.1) rest
  | some low, c :: rest => decide (low < c.1) && Memory.rising (some c.1) rest

/-- The canonical form: addresses strictly rising, no entry that reads as an unlisted address does, and every entry at
an address that holds a byte. -/
def Memory.wf (m : Memory) : Bool :=
  Memory.rising none m && m.all (fun c => c.2 != Config.unlistedByte && isStored c.1)

/-- The entries of the two RAM banks. -/
def Memory.ramPart (m : Memory) : Memory := m.filter (fun c => isRam c.1)

/-- The entries of the ROM. -/
def Memory.romPart (m : Memory) : Memory := m.filter (fun c => isRom c.1)

/-- The cells of an image whose first byte lies at `start`, in canonical form. -/
def Memory.ofBytes : Nat → List Byte → Memory
  | _, [] => []
  | start, v :: rest =>
    if v = Config.unlistedByte then Memory.ofBytes (start + 1) rest else (start, v) :: Memory.ofBytes (start + 1) rest

end Sys2Proof.Machine
end

