-- ==== Sys2Proof/Machine/Pia.lean ====
section
/-! DEFINITION. The PIA6820: what a CPU access to one of its four offsets does (60_exceptions.md R330–R332), its interrupt outputs
(R334), and the device entry points (R340–R345). -/

namespace Sys2Proof.Machine

/-- Control-register bit 2: the data offset addresses the data register, not the DDR (60_exceptions.md R333). -/
def Port.dataSelected (p : Port) : Bool := p.control.getLsbD 2

/-- `CRx <- CRx & 0x7F`: the IRQ1 flag cleared, bit 6 kept (60_exceptions.md R330). -/
def Port.clearIrq1 (p : Port) : Port := { p with control := p.control &&& 0x7F }

/-- `PiaRead(o)` (60_exceptions.md R330): the byte read and the PIA after it. Port B's data register reads with bit 7 replaced
by the override. -/
def Pia.read (p : Pia) (o : Nat) : Byte × Pia :=
  match o with
  | 0 =>
    if p.portA.dataSelected then
      (p.portA.output,
        if p.portA.control.getLsbD 7 then { p with portA := p.portA.clearIrq1, notifyPending := true } else p)
    else (p.portA.ddr, p)
  | 1 => (p.portA.control, p)
  | 2 =>
    if p.portB.dataSelected then
      ((p.portB.output &&& 0x7F) ||| (if p.pb7Override then 0x80 else 0x00),
        if p.portB.control.getLsbD 7 then { p with portB := p.portB.clearIrq1, notifyPending := true } else p)
    else (p.portB.ddr, p)
  | _ => (p.portB.control, p)

/-- What a CPU write to a control register stores: bits 5..0 of the value, bits 7..6 as they were (10_state.md R43). -/
def controlWritten (old v : Byte) : Byte := (old &&& 0xC0) ||| (v &&& 0x3F)

/-- `PiaWrite(o, v)` (60_exceptions.md R331): the PIA after it, and the `SinkWrite` it emits, if any. A write to a selected
data register always emits one, a write that changes a value asks for a notification. -/
def Pia.write (p : Pia) (o : Nat) (v : Byte) : Pia × List DeviceEvent :=
  match o with
  | 0 =>
    if p.portA.dataSelected then
      ({ p with portA := { p.portA with output := v }, notifyPending := p.notifyPending || p.portA.output != v },
        [.sinkWrite .a v])
    else
      ({ p with portA := { p.portA with ddr := v }, notifyPending := p.notifyPending || p.portA.ddr != v }, [])
  | 1 =>
    let n := controlWritten p.portA.control v
    ({ p with portA := { p.portA with control := n }, notifyPending := p.notifyPending || n != p.portA.control }, [])
  | 2 =>
    if p.portB.dataSelected then
      ({ p with portB := { p.portB with output := v }, notifyPending := p.notifyPending || p.portB.output != v },
        [.sinkWrite .b v])
    else
      ({ p with portB := { p.portB with ddr := v }, notifyPending := p.notifyPending || p.portB.ddr != v }, [])
  | _ =>
    let n := controlWritten p.portB.control v
    ({ p with portB := { p.portB with control := n }, notifyPending := p.notifyPending || n != p.portB.control }, [])

/-- The interrupt output of a port (60_exceptions.md R334): `IRQA()` of port A, `IRQB()` of port B. -/
def Port.irq (p : Port) : Bool :=
  (p.control.getLsbD 7 && p.control.getLsbD 0)
    || (p.control.getLsbD 6 && p.control.getLsbD 3 && !p.control.getLsbD 5)

/-- The levels a port drives (60_exceptions.md R352): `ORx & DDRx` on the bits whose DDR bit is 1. A derived view that nothing
in the machine reads. -/
def Port.drivenPins (p : Port) : Byte := p.output &&& p.ddr

/-- The stored level of a control line. -/
def Port.level (p : Port) (k : LineName) : Bool :=
  match k with
  | .c1 => p.c1
  | .c2 => p.c2

/-- `prevCxk <- old; Cxk <- state` (60_exceptions.md R340). -/
def Port.moveLine (p : Port) (k : LineName) (state : Bool) : Port :=
  match k with
  | .c1 => { p with prevC1 := p.c1, c1 := state }
  | .c2 => { p with prevC2 := p.c2, c2 := state }

/-- Whether the line's edges set its flag: `C2` only in input mode (60_exceptions.md R340). -/
def Port.edgeWatched (p : Port) (k : LineName) : Bool :=
  match k with
  | .c1 => true
  | .c2 => !p.control.getLsbD 5

/-- The edge bit `e` of a line, 1 = rising (60_exceptions.md R340: bit 1 for `C1`, bit 4 for `C2`). -/
def Port.risingSelected (p : Port) (k : LineName) : Bool :=
  match k with
  | .c1 => p.control.getLsbD 1
  | .c2 => p.control.getLsbD 4

/-- `1 << f`: the flag bit of a line (60_exceptions.md R340: bit 7 for `C1`, bit 6 for `C2`). -/
def LineName.flagMask (k : LineName) : Byte :=
  match k with
  | .c1 => 0x80
  | .c2 => 0x40

/-- The port's part of `SetLine` (60_exceptions.md R340). -/
def Port.setLine (p : Port) (k : LineName) (state : Bool) : Port :=
  let old := p.level k
  let moved := p.moveLine k state
  let rising := p.risingSelected k
  if old != state && p.edgeWatched k && ((rising && !old && state) || (!rising && old && !state)) then
    { moved with control := moved.control ||| k.flagMask }
  else moved

/-- `SetLine(x, k, state)` (60_exceptions.md R340): a change of level asks for a notification. -/
def Pia.setLine (p : Pia) (x : PortName) (k : LineName) (state : Bool) : Pia :=
  match x with
  | .a => { p with portA := p.portA.setLine k state, notifyPending := p.notifyPending || p.portA.level k != state }
  | .b => { p with portB := p.portB.setLine k state, notifyPending := p.notifyPending || p.portB.level k != state }

/-- `SetPB7Override(active)` (60_exceptions.md R344). -/
def Pia.setPB7Override (p : Pia) (active : Bool) : Pia :=
  { p with pb7Override := active, notifyPending := p.notifyPending || p.pb7Override != active }

/-- `PortAInput(v)` (60_exceptions.md R345): input bits take the device's value, output bits keep what the CPU wrote. -/
def Pia.portAInput (p : Pia) (v : Byte) : Pia :=
  let n := (p.portA.output &&& p.portA.ddr) ||| (v &&& ~~~p.portA.ddr)
  { p with portA := { p.portA with output := n }, notifyPending := p.notifyPending || n != p.portA.output }

/-- `PiaReset` (70_reset_and_hazards.md R402): every register, line, shadow and the override 0; a notification is asked for if any of
them changed. -/
def Pia.reset (p : Pia) : Pia :=
  let changed := p.portA != Port.cleared || p.portB != Port.cleared || p.pb7Override
  ⟨Port.cleared, Port.cleared, false, p.notifyPending || changed⟩

end Sys2Proof.Machine
end

