-- ==== Sys2Proof/Machine/Bus.lean ====
section
/-! DEFINITION. The Bus: its construction (20_memory.md R61), the Machine's map (R70), and the one read and the one write every access
goes through (R62, R63). -/

namespace Sys2Proof.Machine

/-- `BusConstruct(entries)` (20_memory.md R61): the Bus, or `ConfigError`. -/
def busConstruct (entries : List BusEntry) : Except Fault (List BusEntry) :=
  if busEntriesValid entries then .ok entries else .error .configError

/-- The Machine's four entries (20_memory.md R70); everything else is unmapped. -/
def machineBus : List BusEntry := [
  ⟨0x0000, 0x0FFF, .ram0⟩,
  ⟨0xD010, 0xD013, .pia⟩,
  ⟨0xE000, 0xEFFF, .ram1⟩,
  ⟨0xFF00, 0xFFFF, .rom⟩]

/-- The entry that holds an address, if any (20_memory.md R62). -/
def busFind (entries : List BusEntry) (a : Nat) : Option BusEntry :=
  entries.find? (fun e => decide (e.start ≤ a) && decide (a ≤ e.stop))

/-- `BusRead(a)` (20_memory.md R62), also `MemRead(a, 1)` (00_scope.md R15): the byte, and the state after the read's side effects
(R74). RAM and ROM cells are kept by bus address (log 20); the PIA receives the rebased offset (R67). -/
def State.memRead (s : State) (a : Addr) : Byte × State :=
  match busFind machineBus a.toNat with
  | none => (0x00, s)
  | some e =>
    match e.component with
    | .ram0 => (s.mem.read a.toNat, s)
    | .ram1 => (s.mem.read a.toNat, s)
    | .rom => (s.mem.read a.toNat, s)
    | .pia => ((s.pia.read (a.toNat - e.start)).1, { s with pia := (s.pia.read (a.toNat - e.start)).2 })

/-- `BusWrite(a, v)` (20_memory.md R63), also `MemWrite(a, 1, v)` (00_scope.md R15). ROM and unmapped addresses ignore it (R66). -/
def State.memWrite (s : State) (a : Addr) (v : Byte) : State :=
  match busFind machineBus a.toNat with
  | none => s
  | some e =>
    match e.component with
    | .ram0 => { s with mem := s.mem.write a.toNat v }
    | .ram1 => { s with mem := s.mem.write a.toNat v }
    | .rom => s
    | .pia =>
      let r := s.pia.write (a.toNat - e.start) v
      { s with pia := r.1, output := s.output ++ r.2 }

/-- The byte `BusRead` would return, without its side effects. -/
def State.peek (s : State) (a : Addr) : Byte := (s.memRead a).1

end Sys2Proof.Machine
end

