-- ==== Sys2Proof/Machine/Flags.lean ====
section
/-! DEFINITION. Every flag computation and every result of the arithmetic unit, as functions of bytes and flags. -/

namespace Sys2Proof.Machine

/-- `SetNZ(v)` (00_scope.md R15). -/
def Flags.setNZ (f : Flags) (v : Byte) : Flags := { f with n := v.msb, z := v == 0 }

/-- The status byte image `P(b)` (10_state.md R29): `N V 1 b D I Z C`, bit 7 first. -/
def statusByte (b : Bool) (f : Flags) : Byte :=
  BitVec.ofNat 8 ((f.n.toNat <<< 7) ||| (f.v.toNat <<< 6) ||| (1 <<< 5) ||| (b.toNat <<< 4) ||| (f.d.toNat <<< 3)
    ||| (f.i.toNat <<< 2) ||| (f.z.toNat <<< 1) ||| f.c.toNat)

/-- `SetP(v)` (10_state.md R29): bits 5 and 4 are ignored. -/
def flagsOfByte (v : Byte) : Flags :=
  ⟨v.getLsbD 7, v.getLsbD 6, v.getLsbD 3, v.getLsbD 2, v.getLsbD 1, v.getLsbD 0⟩

/-- The overflow of an addition: `(~(A ^ m)) & (A ^ r) & 0x80` (43_arithmetic.md R180). -/
def addOverflow (a m r : Byte) : Bool := (~~~(a ^^^ m) &&& (a ^^^ r)).msb

/-- The overflow of a subtraction: `(A ^ m) & (A ^ r) & 0x80` (43_arithmetic.md R182). -/
def subOverflow (a m r : Byte) : Bool := ((a ^^^ m) &&& (a ^^^ r)).msb

/-- `AdcBinary(m)` (43_arithmetic.md R180): the new `A` and the flags. -/
def adcBinary (a m : Byte) (f : Flags) : Byte × Flags :=
  let r := a.toNat + m.toNat + f.c.toNat
  let res := BitVec.ofNat 8 r
  (res, ({ f with v := addOverflow a m res, c := decide (r > 0xFF) } : Flags).setNZ res)

/-- `AdcDecimal(m)` (43_arithmetic.md R181): `N`, `V` and `Z` from the binary sum, `C` and `A` from the decimal adjustment. -/
def adcDecimal (a m : Byte) (f : Flags) : Byte × Flags :=
  let r := BitVec.ofNat 8 (a.toNat + m.toNat + f.c.toNat)
  let al0 := (a.toNat &&& 0x0F) + (m.toNat &&& 0x0F) + f.c.toNat
  let al := if al0 > 9 then al0 + 6 else al0
  let ah0 := (a.toNat >>> 4) + (m.toNat >>> 4) + (if al > 0x0F then 1 else 0)
  let ah := if ah0 > 9 then ah0 + 6 else ah0
  (BitVec.ofNat 8 ((ah <<< 4) ||| (al &&& 0x0F)),
    { f with z := r == 0, n := r.msb, v := addOverflow a m r, c := decide (ah > 0x0F) })

/-- `SbcBinary(m)` (43_arithmetic.md R182). -/
def sbcBinary (a m : Byte) (f : Flags) : Byte × Flags :=
  let r := a.toNat + (m ^^^ 0xFF).toNat + f.c.toNat
  let res := BitVec.ofNat 8 r
  (res, ({ f with v := subOverflow a m res, c := decide (r > 0xFF) } : Flags).setNZ res)

/-- `SbcDecimal(m)` (43_arithmetic.md R184): all four flags from the binary result, `A` decimal-adjusted. -/
def sbcDecimal (a m : Byte) (f : Flags) : Byte × Flags :=
  let al0 : Int := (a.toNat &&& 0x0F : Nat) - (m.toNat &&& 0x0F : Nat) - (1 - f.c.toNat)
  let al := if al0 < 0 then al0 - 6 else al0
  let ah0 : Int := (a.toNat >>> 4 : Nat) - (m.toNat >>> 4 : Nat) - (if al < 0 then 1 else 0)
  let ah := if ah0 < 0 then ah0 - 6 else ah0
  (BitVec.ofNat 8 (((ah % 16).toNat <<< 4) ||| (al % 16).toNat), (sbcBinary a m f).2)

/-- ADC of either mode (43_arithmetic.md R183). -/
def adcResult (a m : Byte) (f : Flags) : Byte × Flags := if f.d then adcDecimal a m f else adcBinary a m f

/-- SBC of either mode (43_arithmetic.md R185). -/
def sbcResult (a m : Byte) (f : Flags) : Byte × Flags := if f.d then sbcDecimal a m f else sbcBinary a m f

/-- `Compare(reg, m)` (43_arithmetic.md R186). -/
def compareFlags (reg m : Byte) (f : Flags) : Flags :=
  ({ f with c := decide (m.toNat ≤ reg.toNat) } : Flags).setNZ (reg - m)

/-- BIT (44_logic_shift.md R203): `N` and `V` from the memory byte, `Z` from `A & M`. -/
def bitFlags (a m : Byte) (f : Flags) : Flags := { f with z := (a &&& m) == 0, n := m.getLsbD 7, v := m.getLsbD 6 }

/-- ASL's result and carry (44_logic_shift.md R204). -/
def aslByte (v : Byte) (f : Flags) : Byte × Flags := (v <<< 1, { f with c := v.getLsbD 7 })

/-- LSR's result and carry (44_logic_shift.md R205). -/
def lsrByte (v : Byte) (f : Flags) : Byte × Flags := (v >>> 1, { f with c := v.getLsbD 0 })

/-- ROL's result and carry (44_logic_shift.md R206). -/
def rolByte (v : Byte) (f : Flags) : Byte × Flags :=
  ((v <<< 1) ||| (if f.c then 0x01 else 0x00), { f with c := v.getLsbD 7 })

/-- ROR's result and carry (44_logic_shift.md R207). -/
def rorByte (v : Byte) (f : Flags) : Byte × Flags :=
  ((v >>> 1) ||| (if f.c then 0x80 else 0x00), { f with c := v.getLsbD 0 })

/-- INC's result; no carry (43_arithmetic.md R189). -/
def incByte (v : Byte) (f : Flags) : Byte × Flags := (v + 1, f)

/-- DEC's result; no carry (43_arithmetic.md R190). -/
def decByte (v : Byte) (f : Flags) : Byte × Flags := (v - 1, f)

/-- ALR (46_undocumented.md R270): AND, then a logical shift right. -/
def alrResult (a m : Byte) (f : Flags) : Byte × Flags :=
  let t := a &&& m
  let r := t >>> 1
  (r, ({ f with c := t.getLsbD 0 } : Flags).setNZ r)

/-- ARR with `D` = 0 (46_undocumented.md R271). -/
def arrBinary (a m : Byte) (f : Flags) : Byte × Flags :=
  let t := a &&& m
  let r := (t >>> 1) ||| (if f.c then 0x80 else 0x00)
  (r, ({ f with c := r.getLsbD 6, v := r.getLsbD 6 ^^ r.getLsbD 5 } : Flags).setNZ r)

/-- ARR with `D` = 1 (46_undocumented.md R271). -/
def arrDecimal (a m : Byte) (f : Flags) : Byte × Flags :=
  let t := a &&& m
  let r := (t >>> 1) ||| (if f.c then 0x80 else 0x00)
  let lowFixed := if (t.toNat &&& 0x0F) + (t.toNat &&& 0x01) > 5 then (r &&& 0xF0) ||| ((r + 6) &&& 0x0F) else r
  let highOver := decide ((t.toNat >>> 4) + ((t.toNat >>> 4) &&& 0x01) > 5)
  (if highOver then lowFixed + 0x60 else lowFixed,
    { f with n := f.c, z := r == 0, v := ((t ^^^ r) &&& 0x40) != 0, c := highOver })

/-- ARR of either mode (46_undocumented.md R271). -/
def arrResult (a m : Byte) (f : Flags) : Byte × Flags := if f.d then arrDecimal a m f else arrBinary a m f

/-- SBX (46_undocumented.md R272): `(A & X) - M` into `X`, without borrow. -/
def sbxResult (a x m : Byte) (f : Flags) : Byte × Flags :=
  let t := a &&& x
  (t - m, ({ f with c := decide (m.toNat ≤ t.toNat) } : Flags).setNZ (t - m))

end Sys2Proof.Machine
end

