-- ==== Sys2Proof/Machine/Ops.lean ====
section
/-! DEFINITION. The named operations over registers and memory: cycle cost, 16-bit reads, the stack, taking an interrupt and
returning from one, reset, and what each instruction does with its operand byte. -/

namespace Sys2Proof.Machine

/-- `cycles <- cycles + n` (30_encoding.md R108). -/
def State.charge (s : State) (n : Nat) : State := { s with cycles := s.cycles + n }

/-- `Read16(addr)` (00_scope.md R15): low byte first. -/
def State.read16 (s : State) (a : Addr) : Addr × State :=
  let l := s.memRead a
  let h := l.2.memRead (a + 1)
  (join h.1 l.1, h.2)

/-- `0x0100 | S`: the stack lies in page 1 (42_stack.md R170). -/
def stackAddr (sp : Byte) : Addr := join 0x01 sp

/-- `Push(v)` (42_stack.md R170): write, then decrement. -/
def State.push (s : State) (v : Byte) : State :=
  let t := s.memWrite (stackAddr s.sp) v
  { t with sp := t.sp - 1 }

/-- `Pull()` (42_stack.md R171): increment, then read. -/
def State.pull (s : State) : Byte × State :=
  ({ s with sp := s.sp + 1 } : State).memRead (stackAddr (s.sp + 1))

/-- The NMI vector (20_memory.md R72). -/
def nmiVector : Addr := 0xFFFA

/-- The RESET vector (20_memory.md R72). -/
def resetVector : Addr := 0xFFFC

/-- The vector IRQ and BRK share (20_memory.md R72). -/
def irqVector : Addr := 0xFFFE

/-- `Interrupt(vector, b)` (60_exceptions.md R305), the entry BRK, IRQ and NMI share: three pushes, `I` set after the status was
pushed, and the vector read last. -/
def State.interrupt (s : State) (vector : Addr) (b : Bool) : State :=
  let s1 := s.push (hi s.pc)
  let s2 := s1.push (lo s.pc)
  let s3 := s2.push (statusByte b s.flags)
  let s4 := { s3 with flags := { s3.flags with i := true } }
  let v := s4.read16 vector
  { v.2 with pc := v.1 }

/-- The return from an interrupt (45_control_flow_flags.md R223): status, then PC low, then PC high, no adjustment. -/
def State.returnFromInterrupt (s : State) : State :=
  let p := s.pull
  let s1 := { p.2 with flags := flagsOfByte p.1 }
  let l := s1.pull
  let h := l.2.pull
  { h.2 with pc := join h.1 l.1 }

/-- `CpuReset` (70_reset_and_hazards.md R400). -/
def State.cpuReset (s : State) : State :=
  let t : State := { s with
    a := 0, x := 0, y := 0, sp := 0, flags := Flags.cleared, inputs := { s.inputs with nmiPending := false } }
  let v := t.read16 resetVector
  { v.2 with pc := v.1 }

/-- `MachineReset` (70_reset_and_hazards.md R401): the PIA, the devices (log 15), the CPU. -/
def State.machineReset (s : State) : State :=
  ({ s with pia := s.pia.reset, output := s.output ++ [.deviceReset] } : State).cpuReset

/-- The Machine at power-on, before its first reset (10_state.md R56). -/
def State.powerOn (p : Params) : State where
  a := 0
  x := 0
  y := 0
  sp := 0
  pc := 0x0000
  flags := Flags.cleared
  cycles := 0
  opcode := 0
  inputs := ⟨false, false, false⟩
  hook := .absent
  pia := ⟨Port.cleared, Port.cleared, false, false⟩
  clock := ⟨p.targetHz, p.chunk, true, 0, false, none, none⟩
  mem := Memory.ofBytes 0x0000 p.ram0Init ++ Memory.ofBytes 0xE000 p.ram1Init ++ Memory.ofBytes 0xFF00 p.romImage
  faulted := false
  output := []
  hostEvents := []
  wiring := ⟨p.piaIrqWired, p.hostReadSideEffects, false⟩
  agenda := []
  quantumLeft := 0
  freeCount := 0

/-- `MachineConstruct` (70_reset_and_hazards.md R401): a machine exists only for valid parameters and a valid Bus. -/
def machineConstruct (p : Params) : Except Fault State :=
  if p.valid then
    match busConstruct machineBus with
    | .ok _ => .ok (State.powerOn p).machineReset
    | .error e => .error e
  else .error .configError

/-- `A <- v; SetNZ(A)`: LDA, TXA, TYA, PLA (41_load_store_transfer.md R150). -/
def State.loadA (s : State) (v : Byte) : State := { s with a := v, flags := s.flags.setNZ v }

/-- `X <- v; SetNZ(X)`: LDX, TAX, TSX, INX, DEX (41_load_store_transfer.md R151). -/
def State.loadX (s : State) (v : Byte) : State := { s with x := v, flags := s.flags.setNZ v }

/-- `Y <- v; SetNZ(Y)`: LDY, TAY, INY, DEY (41_load_store_transfer.md R152). -/
def State.loadY (s : State) (v : Byte) : State := { s with y := v, flags := s.flags.setNZ v }

/-- LAX (46_undocumented.md R266): `A` and `X` take the same byte. -/
def State.loadAX (s : State) (v : Byte) : State := { s with a := v, x := v, flags := s.flags.setNZ v }

/-- LAS (46_undocumented.md R274): `A`, `X` and `S` take `M & S`. -/
def State.loadAXS (s : State) (m : Byte) : State :=
  { s with a := m &&& s.sp, x := m &&& s.sp, sp := m &&& s.sp, flags := s.flags.setNZ (m &&& s.sp) }

/-- A result of the arithmetic unit into `A` and the flags. -/
def State.setAFlags (s : State) (r : Byte × Flags) : State := { s with a := r.1, flags := r.2 }

/-- ADC (43_arithmetic.md R183). -/
def State.adc (s : State) (m : Byte) : State := s.setAFlags (adcResult s.a m s.flags)

/-- SBC and USBC (43_arithmetic.md R185, 46_undocumented.md R273). -/
def State.sbc (s : State) (m : Byte) : State := s.setAFlags (sbcResult s.a m s.flags)

/-- AND (44_logic_shift.md R200). -/
def State.andA (s : State) (m : Byte) : State := s.loadA (s.a &&& m)

/-- ORA (44_logic_shift.md R201). -/
def State.orA (s : State) (m : Byte) : State := s.loadA (s.a ||| m)

/-- EOR (44_logic_shift.md R202). -/
def State.eorA (s : State) (m : Byte) : State := s.loadA (s.a ^^^ m)

/-- BIT (44_logic_shift.md R203). -/
def State.bitTest (s : State) (m : Byte) : State := { s with flags := bitFlags s.a m s.flags }

/-- CMP (43_arithmetic.md R186). -/
def State.cmpA (s : State) (m : Byte) : State := { s with flags := compareFlags s.a m s.flags }

/-- CPX (43_arithmetic.md R187). -/
def State.cmpX (s : State) (m : Byte) : State := { s with flags := compareFlags s.x m s.flags }

/-- CPY (43_arithmetic.md R188). -/
def State.cmpY (s : State) (m : Byte) : State := { s with flags := compareFlags s.y m s.flags }

/-- ANC (46_undocumented.md R269): AND, then `C <- A[7]`. -/
def State.anc (s : State) (m : Byte) : State :=
  let t := s.andA m
  { t with flags := { t.flags with c := t.a.getLsbD 7 } }

/-- ALR (46_undocumented.md R270). -/
def State.alr (s : State) (m : Byte) : State := s.setAFlags (alrResult s.a m s.flags)

/-- ARR (46_undocumented.md R271). -/
def State.arr (s : State) (m : Byte) : State := s.setAFlags (arrResult s.a m s.flags)

/-- SBX (46_undocumented.md R272). -/
def State.sbx (s : State) (m : Byte) : State :=
  let r := sbxResult s.a s.x m s.flags
  { s with x := r.1, flags := r.2 }

/-- `SetNZ(t)` after the byte was written: the documented read-modify-write instructions (44_logic_shift.md R204). -/
def State.flagNZ (s : State) (t : Byte) : State := { s with flags := s.flags.setNZ t }

end Sys2Proof.Machine
end

