-- ==== Sys2Proof/Machine/Operands.lean ====
section
/-! DEFINITION. The addressing modes (40_addressing.md R130–R144) and the shapes an instruction has around its operand: read, write,
read-modify-write, accumulator, immediate, skip, implied, branch. Each runs after the operand bytes were fetched, with `PC` past
the instruction (00_scope.md R17), and adds the cycles of 30_encoding.md R108. -/

namespace Sys2Proof.Machine

/-- What an addressing-mode routine gives: the effective address, whether the page was crossed, and the state after its pointer
reads. -/
structure Ea where
  addr : Addr
  crossed : Bool
  state : State

/-- A byte as an address in page 0. -/
def zeroPage (v : Byte) : Addr := join 0x00 v

/-- `sext_8` of a branch offset (00_scope.md R13, 30_encoding.md R103). -/
def signExtend8 (v : Byte) : Addr := v.signExtend 16

/-- `(p & 0xFF00) != (q & 0xFF00)` (40_addressing.md R137, R142). -/
def pageDiffers (p q : Addr) : Bool := hi p != hi q

/-- `zp` (40_addressing.md R133). -/
def eaZp (d8 : Byte) (s : State) : Ea := ⟨zeroPage d8, false, s⟩

/-- `zpx` (40_addressing.md R134): wraps inside the zero page. -/
def eaZpx (d8 : Byte) (s : State) : Ea := ⟨zeroPage (d8 + s.x), false, s⟩

/-- `zpy` (40_addressing.md R135). -/
def eaZpy (d8 : Byte) (s : State) : Ea := ⟨zeroPage (d8 + s.y), false, s⟩

/-- `abs` (40_addressing.md R136). -/
def eaAbs (a16 : Addr) (s : State) : Ea := ⟨a16, false, s⟩

/-- A base plus an unsigned index, wrapping at 0x10000 (40_addressing.md R137). -/
def eaIndexed (base : Addr) (index : Byte) (s : State) : Ea :=
  ⟨base + zeroPage index, pageDiffers (base + zeroPage index) base, s⟩

/-- `abx` (40_addressing.md R137). -/
def eaAbx (a16 : Addr) (s : State) : Ea := eaIndexed a16 s.x s

/-- `aby` (40_addressing.md R138). -/
def eaAby (a16 : Addr) (s : State) : Ea := eaIndexed a16 s.y s

/-- A 16-bit pointer whose high byte is read from the same page as its low byte (40_addressing.md R139, R140, R141). -/
def State.readPointer (s : State) (p : Addr) : Addr × State :=
  let l := s.memRead p
  let h := l.2.memRead (join (hi p) (lo p + 1))
  (join h.1 l.1, h.2)

/-- `ind` (40_addressing.md R139). -/
def eaInd (a16 : Addr) (s : State) : Ea :=
  let p := s.readPointer a16
  ⟨p.1, false, p.2⟩

/-- `izx` (40_addressing.md R140). -/
def eaIzx (d8 : Byte) (s : State) : Ea :=
  let p := s.readPointer (zeroPage (d8 + s.x))
  ⟨p.1, false, p.2⟩

/-- `izy` (40_addressing.md R141). -/
def eaIzy (d8 : Byte) (s : State) : Ea :=
  let p := s.readPointer (zeroPage d8)
  eaIndexed p.1 p.2.y p.2

/-- The branch target of `rel` (40_addressing.md R142), from the address after the branch. -/
def eaRel (d8 : Byte) (s : State) : Ea :=
  ⟨s.pc + signExtend8 d8, pageDiffers (s.pc + signExtend8 d8) s.pc, s⟩

/-- The page-cross penalty (40_addressing.md R143): one cycle if the opcode carries `+p` and the page was crossed. -/
def pagePenalty (penalty crossed : Bool) : Nat := if penalty && crossed then 1 else 0

/-- An instruction that reads its operand at `EA`. -/
def readOp (base : Nat) (penalty : Bool) (e : Ea) (f : State → Byte → State) : Result :=
  let m := e.state.memRead e.addr
  .next ((f m.2 m.1).charge (base + pagePenalty penalty e.crossed))

/-- An instruction with an immediate operand: the byte fetched is the data read (40_addressing.md R132). -/
def immOp (base : Nat) (d8 : Byte) (s : State) (f : State → Byte → State) : Result :=
  .next ((f s d8).charge base)

/-- A store: no data read (20_memory.md R84). -/
def writeOp (base : Nat) (e : Ea) (v : Byte) : Result :=
  .next ((e.state.memWrite e.addr v).charge base)

/-- A read-modify-write instruction: one read and one write of the same address (20_memory.md R78), then what it does with the byte
written. -/
def rmwOp (base : Nat) (e : Ea) (modify : Byte → Flags → Byte × Flags) (after : State → Byte → State) : Result :=
  let m := e.state.memRead e.addr
  let t := modify m.1 m.2.flags
  .next ((after (({ m.2 with flags := t.2 } : State).memWrite e.addr t.1) t.1).charge base)

/-- An accumulator form of a shift or rotate (40_addressing.md R131). -/
def accOp (base : Nat) (s : State) (modify : Byte → Flags → Byte × Flags) : Result :=
  let t := modify s.a s.flags
  .next (({ s with a := t.1, flags := t.2.setNZ t.1 } : State).charge base)

/-- A no-op with an operand: its addressing-mode routine runs, nothing is read at `EA` (46_undocumented.md R277, R279). -/
def skipOp (base : Nat) (penalty : Bool) (e : Ea) : Result :=
  .next (e.state.charge (base + pagePenalty penalty e.crossed))

/-- An implied instruction. -/
def impliedOp (base : Nat) (s : State) : Result := .next (s.charge base)

/-- The operation of the eight branches (45_control_flow_flags.md R225, R235). -/
def branchOp (cond : Bool) (d8 : Byte) (s : State) : Result :=
  let e := eaRel d8 s
  if cond then .next (({ s with pc := e.addr } : State).charge (2 + 1 + if e.crossed then 1 else 0))
  else .next (s.charge 2)

/-- A jump to `EA` (45_control_flow_flags.md R220). -/
def jumpOp (base : Nat) (e : Ea) : Result := .next (({ e.state with pc := e.addr } : State).charge base)

/-! The vocabulary in which statements speak of an instruction's operand: each is read from the row of 30_encoding.md R106 and from the
operand bytes, while each meaning names its addressing-mode routine and its cycles itself. -/

/-- The effective address of an instruction (30_encoding.md R102, 40_addressing.md R130–R142). For `imm` it is the address of the operand
byte (R132); a mode that has none (`imp`, `acc`) gives the address of the next instruction. -/
def effectiveAddress (i : Instr) (s : State) : Ea :=
  match i.mode, encode i with
  | .imm, _ => ⟨s.pc - 1, false, s⟩
  | .zp, [_, d8] => eaZp d8 s
  | .zpx, [_, d8] => eaZpx d8 s
  | .zpy, [_, d8] => eaZpy d8 s
  | .abs, [_, l, h] => eaAbs (join h l) s
  | .abx, [_, l, h] => eaAbx (join h l) s
  | .aby, [_, l, h] => eaAby (join h l) s
  | .ind, [_, l, h] => eaInd (join h l) s
  | .izx, [_, d8] => eaIzx d8 s
  | .izy, [_, d8] => eaIzy d8 s
  | .rel, [_, d8] => eaRel d8 s
  | _, _ => ⟨s.pc, false, s⟩

/-- The operand byte `M` of an instruction (00_scope.md R17) and the state after it was read: the fetched byte for `imm`, `A` for
`acc`, else the byte at the effective address. -/
def operandRead (i : Instr) (s : State) : Byte × State :=
  match i.mode, encode i with
  | .imm, [_, d8] => (d8, s)
  | .acc, _ => (s.a, s)
  | _, _ => (effectiveAddress i s).state.memRead (effectiveAddress i s).addr

/-- The condition of a branch (45_control_flow_flags.md R227–R234); no other instruction branches. -/
def branchTaken (m : Mnemonic) (f : Flags) : Bool :=
  match m with
  | .bcc => !f.c
  | .bcs => f.c
  | .bne => !f.z
  | .beq => f.z
  | .bpl => !f.n
  | .bmi => f.n
  | .bvc => !f.v
  | .bvs => f.v
  | _ => false

/-- `base(op) + extra` of 30_encoding.md R108: the base cost of the row of R106, the page-cross penalty of 40_addressing.md R143, and for a
branch the cost of 45_control_flow_flags.md R235. -/
def costOf (i : Instr) (s : State) : Nat :=
  i.row.cycles +
    if i.mode = .rel then
      if branchTaken i.mnemonic s.flags then 1 + pagePenalty true (effectiveAddress i s).crossed else 0
    else pagePenalty i.row.penalty (effectiveAddress i s).crossed

end Sys2Proof.Machine
end

