-- ==== Sys2Proof/Machine/Arith.lean ====
section
/-! DEFINITION. Arithmetic, compare, increment and decrement instructions (43_arithmetic.md R183–R194). -/

namespace Sys2Proof.Machine

/-- `61`, ADC izx (R183). -/
def execAdcIzx (d8 : Byte) (s : State) : Result := readOp 6 false (eaIzx d8 s) State.adc

/-- `65`, ADC zp (R183). -/
def execAdcZp (d8 : Byte) (s : State) : Result := readOp 3 false (eaZp d8 s) State.adc

/-- `69`, ADC imm (R183). -/
def execAdcImm (d8 : Byte) (s : State) : Result := immOp 2 d8 s State.adc

/-- `6D`, ADC abs (R183). -/
def execAdcAbs (a16 : Addr) (s : State) : Result := readOp 4 false (eaAbs a16 s) State.adc

/-- `71`, ADC izy (R183). -/
def execAdcIzy (d8 : Byte) (s : State) : Result := readOp 5 true (eaIzy d8 s) State.adc

/-- `75`, ADC zpx (R183). -/
def execAdcZpx (d8 : Byte) (s : State) : Result := readOp 4 false (eaZpx d8 s) State.adc

/-- `79`, ADC aby (R183). -/
def execAdcAby (a16 : Addr) (s : State) : Result := readOp 4 true (eaAby a16 s) State.adc

/-- `7D`, ADC abx (R183). -/
def execAdcAbx (a16 : Addr) (s : State) : Result := readOp 4 true (eaAbx a16 s) State.adc

/-- `E1`, SBC izx (R185). -/
def execSbcIzx (d8 : Byte) (s : State) : Result := readOp 6 false (eaIzx d8 s) State.sbc

/-- `E5`, SBC zp (R185). -/
def execSbcZp (d8 : Byte) (s : State) : Result := readOp 3 false (eaZp d8 s) State.sbc

/-- `E9`, SBC imm (R185). -/
def execSbcImm (d8 : Byte) (s : State) : Result := immOp 2 d8 s State.sbc

/-- `ED`, SBC abs (R185). -/
def execSbcAbs (a16 : Addr) (s : State) : Result := readOp 4 false (eaAbs a16 s) State.sbc

/-- `F1`, SBC izy (R185). -/
def execSbcIzy (d8 : Byte) (s : State) : Result := readOp 5 true (eaIzy d8 s) State.sbc

/-- `F5`, SBC zpx (R185). -/
def execSbcZpx (d8 : Byte) (s : State) : Result := readOp 4 false (eaZpx d8 s) State.sbc

/-- `F9`, SBC aby (R185). -/
def execSbcAby (a16 : Addr) (s : State) : Result := readOp 4 true (eaAby a16 s) State.sbc

/-- `FD`, SBC abx (R185). -/
def execSbcAbx (a16 : Addr) (s : State) : Result := readOp 4 true (eaAbx a16 s) State.sbc

/-- `C1`, CMP izx (R186). -/
def execCmpIzx (d8 : Byte) (s : State) : Result := readOp 6 false (eaIzx d8 s) State.cmpA

/-- `C5`, CMP zp (R186). -/
def execCmpZp (d8 : Byte) (s : State) : Result := readOp 3 false (eaZp d8 s) State.cmpA

/-- `C9`, CMP imm (R186). -/
def execCmpImm (d8 : Byte) (s : State) : Result := immOp 2 d8 s State.cmpA

/-- `CD`, CMP abs (R186). -/
def execCmpAbs (a16 : Addr) (s : State) : Result := readOp 4 false (eaAbs a16 s) State.cmpA

/-- `D1`, CMP izy (R186). -/
def execCmpIzy (d8 : Byte) (s : State) : Result := readOp 5 true (eaIzy d8 s) State.cmpA

/-- `D5`, CMP zpx (R186). -/
def execCmpZpx (d8 : Byte) (s : State) : Result := readOp 4 false (eaZpx d8 s) State.cmpA

/-- `D9`, CMP aby (R186). -/
def execCmpAby (a16 : Addr) (s : State) : Result := readOp 4 true (eaAby a16 s) State.cmpA

/-- `DD`, CMP abx (R186). -/
def execCmpAbx (a16 : Addr) (s : State) : Result := readOp 4 true (eaAbx a16 s) State.cmpA

/-- `E0`, CPX imm (R187). -/
def execCpxImm (d8 : Byte) (s : State) : Result := immOp 2 d8 s State.cmpX

/-- `E4`, CPX zp (R187). -/
def execCpxZp (d8 : Byte) (s : State) : Result := readOp 3 false (eaZp d8 s) State.cmpX

/-- `EC`, CPX abs (R187). -/
def execCpxAbs (a16 : Addr) (s : State) : Result := readOp 4 false (eaAbs a16 s) State.cmpX

/-- `C0`, CPY imm (R188). -/
def execCpyImm (d8 : Byte) (s : State) : Result := immOp 2 d8 s State.cmpY

/-- `C4`, CPY zp (R188). -/
def execCpyZp (d8 : Byte) (s : State) : Result := readOp 3 false (eaZp d8 s) State.cmpY

/-- `CC`, CPY abs (R188). -/
def execCpyAbs (a16 : Addr) (s : State) : Result := readOp 4 false (eaAbs a16 s) State.cmpY

/-- `E6`, INC zp (R189). -/
def execIncZp (d8 : Byte) (s : State) : Result := rmwOp 5 (eaZp d8 s) incByte State.flagNZ

/-- `EE`, INC abs (R189). -/
def execIncAbs (a16 : Addr) (s : State) : Result := rmwOp 6 (eaAbs a16 s) incByte State.flagNZ

/-- `F6`, INC zpx (R189). -/
def execIncZpx (d8 : Byte) (s : State) : Result := rmwOp 6 (eaZpx d8 s) incByte State.flagNZ

/-- `FE`, INC abx (R189). -/
def execIncAbx (a16 : Addr) (s : State) : Result := rmwOp 7 (eaAbx a16 s) incByte State.flagNZ

/-- `C6`, DEC zp (R190). -/
def execDecZp (d8 : Byte) (s : State) : Result := rmwOp 5 (eaZp d8 s) decByte State.flagNZ

/-- `CE`, DEC abs (R190). -/
def execDecAbs (a16 : Addr) (s : State) : Result := rmwOp 6 (eaAbs a16 s) decByte State.flagNZ

/-- `D6`, DEC zpx (R190). -/
def execDecZpx (d8 : Byte) (s : State) : Result := rmwOp 6 (eaZpx d8 s) decByte State.flagNZ

/-- `DE`, DEC abx (R190). -/
def execDecAbx (a16 : Addr) (s : State) : Result := rmwOp 7 (eaAbx a16 s) decByte State.flagNZ

/-- `E8`, INX imp (R193). -/
def execInx (s : State) : Result := impliedOp 2 (s.loadX (s.x + 1))

/-- `C8`, INY imp (R194). -/
def execIny (s : State) : Result := impliedOp 2 (s.loadY (s.y + 1))

/-- `CA`, DEX imp (R191). -/
def execDex (s : State) : Result := impliedOp 2 (s.loadX (s.x - 1))

/-- `88`, DEY imp (R192). -/
def execDey (s : State) : Result := impliedOp 2 (s.loadY (s.y - 1))

end Sys2Proof.Machine
end

