-- ==== Sys2Proof/Machine/Control.lean ====
section
/-! DEFINITION. Jumps, subroutines, BRK and RTI, branches and flag instructions (45_control_flow_flags.md R220–R246).
JSR: on entry `PC` is past the instruction, so `PC - 1` is the address of its last byte, which R221 pushes. BRK: on entry `PC` is
I + 1, and the byte it skips is not read (R224). -/

namespace Sys2Proof.Machine

/-- `4C`, JMP abs (R220). -/
def execJmpAbs (a16 : Addr) (s : State) : Result := jumpOp 3 (eaAbs a16 s)

/-- `6C`, JMP ind (R220). -/
def execJmpInd (a16 : Addr) (s : State) : Result := jumpOp 5 (eaInd a16 s)

/-- `20`, JSR abs (R221). -/
def execJsr (a16 : Addr) (s : State) : Result :=
  .next (({ (s.push (hi (s.pc - 1))).push (lo (s.pc - 1)) with pc := a16 } : State).charge 6)

/-- `60`, RTS imp (R222). -/
def execRts (s : State) : Result :=
  let l := s.pull
  let h := l.2.pull
  .next (({ h.2 with pc := join h.1 l.1 + 1 } : State).charge 6)

/-- `40`, RTI imp (R223). -/
def execRti (s : State) : Result := .next (s.returnFromInterrupt.charge 6)

/-- `00`, BRK imp (R224). -/
def execBrk (s : State) : Result :=
  .next ((({ s with pc := s.pc + 1 } : State).interrupt irqVector true).charge 7)

/-- `90`, BCC rel (R227). -/
def execBcc (d8 : Byte) (s : State) : Result := branchOp (!s.flags.c) d8 s

/-- `B0`, BCS rel (R228). -/
def execBcs (d8 : Byte) (s : State) : Result := branchOp s.flags.c d8 s

/-- `F0`, BEQ rel (R229). -/
def execBeq (d8 : Byte) (s : State) : Result := branchOp s.flags.z d8 s

/-- `30`, BMI rel (R230). -/
def execBmi (d8 : Byte) (s : State) : Result := branchOp s.flags.n d8 s

/-- `D0`, BNE rel (R231). -/
def execBne (d8 : Byte) (s : State) : Result := branchOp (!s.flags.z) d8 s

/-- `10`, BPL rel (R232). -/
def execBpl (d8 : Byte) (s : State) : Result := branchOp (!s.flags.n) d8 s

/-- `50`, BVC rel (R233). -/
def execBvc (d8 : Byte) (s : State) : Result := branchOp (!s.flags.v) d8 s

/-- `70`, BVS rel (R234). -/
def execBvs (d8 : Byte) (s : State) : Result := branchOp s.flags.v d8 s

/-- `18`, CLC imp (R240). -/
def execClc (s : State) : Result := impliedOp 2 { s with flags := { s.flags with c := false } }

/-- `D8`, CLD imp (R241). -/
def execCld (s : State) : Result := impliedOp 2 { s with flags := { s.flags with d := false } }

/-- `58`, CLI imp (R242). -/
def execCli (s : State) : Result := impliedOp 2 { s with flags := { s.flags with i := false } }

/-- `B8`, CLV imp (R243). -/
def execClv (s : State) : Result := impliedOp 2 { s with flags := { s.flags with v := false } }

/-- `38`, SEC imp (R244). -/
def execSec (s : State) : Result := impliedOp 2 { s with flags := { s.flags with c := true } }

/-- `F8`, SED imp (R245). -/
def execSed (s : State) : Result := impliedOp 2 { s with flags := { s.flags with d := true } }

/-- `78`, SEI imp (R246). -/
def execSei (s : State) : Result := impliedOp 2 { s with flags := { s.flags with i := true } }

end Sys2Proof.Machine
end

