-- ==== Sys2Proof/Machine/Load.lean ====
section
/-! DEFINITION. Load, store and register-transfer instructions (41_load_store_transfer.md R150–R162). -/

namespace Sys2Proof.Machine

/-- `A1`, LDA izx (R150). -/
def execLdaIzx (d8 : Byte) (s : State) : Result := readOp 6 false (eaIzx d8 s) State.loadA

/-- `A5`, LDA zp (R150). -/
def execLdaZp (d8 : Byte) (s : State) : Result := readOp 3 false (eaZp d8 s) State.loadA

/-- `A9`, LDA imm (R150). -/
def execLdaImm (d8 : Byte) (s : State) : Result := immOp 2 d8 s State.loadA

/-- `AD`, LDA abs (R150). -/
def execLdaAbs (a16 : Addr) (s : State) : Result := readOp 4 false (eaAbs a16 s) State.loadA

/-- `B1`, LDA izy (R150). -/
def execLdaIzy (d8 : Byte) (s : State) : Result := readOp 5 true (eaIzy d8 s) State.loadA

/-- `B5`, LDA zpx (R150). -/
def execLdaZpx (d8 : Byte) (s : State) : Result := readOp 4 false (eaZpx d8 s) State.loadA

/-- `B9`, LDA aby (R150). -/
def execLdaAby (a16 : Addr) (s : State) : Result := readOp 4 true (eaAby a16 s) State.loadA

/-- `BD`, LDA abx (R150). -/
def execLdaAbx (a16 : Addr) (s : State) : Result := readOp 4 true (eaAbx a16 s) State.loadA

/-- `A2`, LDX imm (R151). -/
def execLdxImm (d8 : Byte) (s : State) : Result := immOp 2 d8 s State.loadX

/-- `A6`, LDX zp (R151). -/
def execLdxZp (d8 : Byte) (s : State) : Result := readOp 3 false (eaZp d8 s) State.loadX

/-- `AE`, LDX abs (R151). -/
def execLdxAbs (a16 : Addr) (s : State) : Result := readOp 4 false (eaAbs a16 s) State.loadX

/-- `B6`, LDX zpy (R151). -/
def execLdxZpy (d8 : Byte) (s : State) : Result := readOp 4 false (eaZpy d8 s) State.loadX

/-- `BE`, LDX aby (R151). -/
def execLdxAby (a16 : Addr) (s : State) : Result := readOp 4 true (eaAby a16 s) State.loadX

/-- `A0`, LDY imm (R152). -/
def execLdyImm (d8 : Byte) (s : State) : Result := immOp 2 d8 s State.loadY

/-- `A4`, LDY zp (R152). -/
def execLdyZp (d8 : Byte) (s : State) : Result := readOp 3 false (eaZp d8 s) State.loadY

/-- `AC`, LDY abs (R152). -/
def execLdyAbs (a16 : Addr) (s : State) : Result := readOp 4 false (eaAbs a16 s) State.loadY

/-- `B4`, LDY zpx (R152). -/
def execLdyZpx (d8 : Byte) (s : State) : Result := readOp 4 false (eaZpx d8 s) State.loadY

/-- `BC`, LDY abx (R152). -/
def execLdyAbx (a16 : Addr) (s : State) : Result := readOp 4 true (eaAbx a16 s) State.loadY

/-- `81`, STA izx (R153). -/
def execStaIzx (d8 : Byte) (s : State) : Result := writeOp 6 (eaIzx d8 s) s.a

/-- `85`, STA zp (R153). -/
def execStaZp (d8 : Byte) (s : State) : Result := writeOp 3 (eaZp d8 s) s.a

/-- `8D`, STA abs (R153). -/
def execStaAbs (a16 : Addr) (s : State) : Result := writeOp 4 (eaAbs a16 s) s.a

/-- `91`, STA izy (R153). -/
def execStaIzy (d8 : Byte) (s : State) : Result := writeOp 6 (eaIzy d8 s) s.a

/-- `95`, STA zpx (R153). -/
def execStaZpx (d8 : Byte) (s : State) : Result := writeOp 4 (eaZpx d8 s) s.a

/-- `99`, STA aby (R153). -/
def execStaAby (a16 : Addr) (s : State) : Result := writeOp 5 (eaAby a16 s) s.a

/-- `9D`, STA abx (R153). -/
def execStaAbx (a16 : Addr) (s : State) : Result := writeOp 5 (eaAbx a16 s) s.a

/-- `86`, STX zp (R154). -/
def execStxZp (d8 : Byte) (s : State) : Result := writeOp 3 (eaZp d8 s) s.x

/-- `8E`, STX abs (R154). -/
def execStxAbs (a16 : Addr) (s : State) : Result := writeOp 4 (eaAbs a16 s) s.x

/-- `96`, STX zpy (R154). -/
def execStxZpy (d8 : Byte) (s : State) : Result := writeOp 4 (eaZpy d8 s) s.x

/-- `84`, STY zp (R155). -/
def execStyZp (d8 : Byte) (s : State) : Result := writeOp 3 (eaZp d8 s) s.y

/-- `8C`, STY abs (R155). -/
def execStyAbs (a16 : Addr) (s : State) : Result := writeOp 4 (eaAbs a16 s) s.y

/-- `94`, STY zpx (R155). -/
def execStyZpx (d8 : Byte) (s : State) : Result := writeOp 4 (eaZpx d8 s) s.y

/-- `AA`, TAX imp (R156). -/
def execTax (s : State) : Result := impliedOp 2 (s.loadX s.a)

/-- `A8`, TAY imp (R157). -/
def execTay (s : State) : Result := impliedOp 2 (s.loadY s.a)

/-- `BA`, TSX imp (R158). -/
def execTsx (s : State) : Result := impliedOp 2 (s.loadX s.sp)

/-- `8A`, TXA imp (R159). -/
def execTxa (s : State) : Result := impliedOp 2 (s.loadA s.x)

/-- `9A`, TXS imp (R160). -/
def execTxs (s : State) : Result := impliedOp 2 { s with sp := s.x }

/-- `98`, TYA imp (R161). -/
def execTya (s : State) : Result := impliedOp 2 (s.loadA s.y)

end Sys2Proof.Machine
end

