-- ==== Sys2Proof/Machine/Logic.lean ====
section
/-! DEFINITION. Logic, bit-test, shift and rotate instructions (44_logic_shift.md R200–R207). -/

namespace Sys2Proof.Machine

/-- `21`, AND izx (R200). -/
def execAndIzx (d8 : Byte) (s : State) : Result := readOp 6 false (eaIzx d8 s) State.andA

/-- `25`, AND zp (R200). -/
def execAndZp (d8 : Byte) (s : State) : Result := readOp 3 false (eaZp d8 s) State.andA

/-- `29`, AND imm (R200). -/
def execAndImm (d8 : Byte) (s : State) : Result := immOp 2 d8 s State.andA

/-- `2D`, AND abs (R200). -/
def execAndAbs (a16 : Addr) (s : State) : Result := readOp 4 false (eaAbs a16 s) State.andA

/-- `31`, AND izy (R200). -/
def execAndIzy (d8 : Byte) (s : State) : Result := readOp 5 true (eaIzy d8 s) State.andA

/-- `35`, AND zpx (R200). -/
def execAndZpx (d8 : Byte) (s : State) : Result := readOp 4 false (eaZpx d8 s) State.andA

/-- `39`, AND aby (R200). -/
def execAndAby (a16 : Addr) (s : State) : Result := readOp 4 true (eaAby a16 s) State.andA

/-- `3D`, AND abx (R200). -/
def execAndAbx (a16 : Addr) (s : State) : Result := readOp 4 true (eaAbx a16 s) State.andA

/-- `01`, ORA izx (R201). -/
def execOraIzx (d8 : Byte) (s : State) : Result := readOp 6 false (eaIzx d8 s) State.orA

/-- `05`, ORA zp (R201). -/
def execOraZp (d8 : Byte) (s : State) : Result := readOp 3 false (eaZp d8 s) State.orA

/-- `09`, ORA imm (R201). -/
def execOraImm (d8 : Byte) (s : State) : Result := immOp 2 d8 s State.orA

/-- `0D`, ORA abs (R201). -/
def execOraAbs (a16 : Addr) (s : State) : Result := readOp 4 false (eaAbs a16 s) State.orA

/-- `11`, ORA izy (R201). -/
def execOraIzy (d8 : Byte) (s : State) : Result := readOp 5 true (eaIzy d8 s) State.orA

/-- `15`, ORA zpx (R201). -/
def execOraZpx (d8 : Byte) (s : State) : Result := readOp 4 false (eaZpx d8 s) State.orA

/-- `19`, ORA aby (R201). -/
def execOraAby (a16 : Addr) (s : State) : Result := readOp 4 true (eaAby a16 s) State.orA

/-- `1D`, ORA abx (R201). -/
def execOraAbx (a16 : Addr) (s : State) : Result := readOp 4 true (eaAbx a16 s) State.orA

/-- `41`, EOR izx (R202). -/
def execEorIzx (d8 : Byte) (s : State) : Result := readOp 6 false (eaIzx d8 s) State.eorA

/-- `45`, EOR zp (R202). -/
def execEorZp (d8 : Byte) (s : State) : Result := readOp 3 false (eaZp d8 s) State.eorA

/-- `49`, EOR imm (R202). -/
def execEorImm (d8 : Byte) (s : State) : Result := immOp 2 d8 s State.eorA

/-- `4D`, EOR abs (R202). -/
def execEorAbs (a16 : Addr) (s : State) : Result := readOp 4 false (eaAbs a16 s) State.eorA

/-- `51`, EOR izy (R202). -/
def execEorIzy (d8 : Byte) (s : State) : Result := readOp 5 true (eaIzy d8 s) State.eorA

/-- `55`, EOR zpx (R202). -/
def execEorZpx (d8 : Byte) (s : State) : Result := readOp 4 false (eaZpx d8 s) State.eorA

/-- `59`, EOR aby (R202). -/
def execEorAby (a16 : Addr) (s : State) : Result := readOp 4 true (eaAby a16 s) State.eorA

/-- `5D`, EOR abx (R202). -/
def execEorAbx (a16 : Addr) (s : State) : Result := readOp 4 true (eaAbx a16 s) State.eorA

/-- `24`, BIT zp (R203). -/
def execBitZp (d8 : Byte) (s : State) : Result := readOp 3 false (eaZp d8 s) State.bitTest

/-- `2C`, BIT abs (R203). -/
def execBitAbs (a16 : Addr) (s : State) : Result := readOp 4 false (eaAbs a16 s) State.bitTest

/-- `06`, ASL zp (R204). -/
def execAslZp (d8 : Byte) (s : State) : Result := rmwOp 5 (eaZp d8 s) aslByte State.flagNZ

/-- `0A`, ASL acc (R204). -/
def execAslAcc (s : State) : Result := accOp 2 s aslByte

/-- `0E`, ASL abs (R204). -/
def execAslAbs (a16 : Addr) (s : State) : Result := rmwOp 6 (eaAbs a16 s) aslByte State.flagNZ

/-- `16`, ASL zpx (R204). -/
def execAslZpx (d8 : Byte) (s : State) : Result := rmwOp 6 (eaZpx d8 s) aslByte State.flagNZ

/-- `1E`, ASL abx (R204). -/
def execAslAbx (a16 : Addr) (s : State) : Result := rmwOp 7 (eaAbx a16 s) aslByte State.flagNZ

/-- `46`, LSR zp (R205). -/
def execLsrZp (d8 : Byte) (s : State) : Result := rmwOp 5 (eaZp d8 s) lsrByte State.flagNZ

/-- `4A`, LSR acc (R205). -/
def execLsrAcc (s : State) : Result := accOp 2 s lsrByte

/-- `4E`, LSR abs (R205). -/
def execLsrAbs (a16 : Addr) (s : State) : Result := rmwOp 6 (eaAbs a16 s) lsrByte State.flagNZ

/-- `56`, LSR zpx (R205). -/
def execLsrZpx (d8 : Byte) (s : State) : Result := rmwOp 6 (eaZpx d8 s) lsrByte State.flagNZ

/-- `5E`, LSR abx (R205). -/
def execLsrAbx (a16 : Addr) (s : State) : Result := rmwOp 7 (eaAbx a16 s) lsrByte State.flagNZ

/-- `26`, ROL zp (R206). -/
def execRolZp (d8 : Byte) (s : State) : Result := rmwOp 5 (eaZp d8 s) rolByte State.flagNZ

/-- `2A`, ROL acc (R206). -/
def execRolAcc (s : State) : Result := accOp 2 s rolByte

/-- `2E`, ROL abs (R206). -/
def execRolAbs (a16 : Addr) (s : State) : Result := rmwOp 6 (eaAbs a16 s) rolByte State.flagNZ

/-- `36`, ROL zpx (R206). -/
def execRolZpx (d8 : Byte) (s : State) : Result := rmwOp 6 (eaZpx d8 s) rolByte State.flagNZ

/-- `3E`, ROL abx (R206). -/
def execRolAbx (a16 : Addr) (s : State) : Result := rmwOp 7 (eaAbx a16 s) rolByte State.flagNZ

/-- `66`, ROR zp (R207). -/
def execRorZp (d8 : Byte) (s : State) : Result := rmwOp 5 (eaZp d8 s) rorByte State.flagNZ

/-- `6A`, ROR acc (R207). -/
def execRorAcc (s : State) : Result := accOp 2 s rorByte

/-- `6E`, ROR abs (R207). -/
def execRorAbs (a16 : Addr) (s : State) : Result := rmwOp 6 (eaAbs a16 s) rorByte State.flagNZ

/-- `76`, ROR zpx (R207). -/
def execRorZpx (d8 : Byte) (s : State) : Result := rmwOp 6 (eaZpx d8 s) rorByte State.flagNZ

/-- `7E`, ROR abx (R207). -/
def execRorAbx (a16 : Addr) (s : State) : Result := rmwOp 7 (eaAbx a16 s) rorByte State.flagNZ

end Sys2Proof.Machine
end

