-- ==== Sys2Proof/Machine/Stack.lean ====
section
/-! DEFINITION. Stack instructions (42_stack.md R172–R175). -/

namespace Sys2Proof.Machine

/-- `48`, PHA imp (R172). -/
def execPha (s : State) : Result := impliedOp 3 (s.push s.a)

/-- `08`, PHP imp (R173). -/
def execPhp (s : State) : Result := impliedOp 3 (s.push (statusByte true s.flags))

/-- `68`, PLA imp (R174). -/
def execPla (s : State) : Result :=
  let p := s.pull
  .next ((p.2.loadA p.1).charge 4)

/-- `28`, PLP imp (R175). -/
def execPlp (s : State) : Result :=
  let p := s.pull
  .next (({ p.2 with flags := flagsOfByte p.1 } : State).charge 4)

end Sys2Proof.Machine
end

