-- ==== Sys2Proof/Machine/Undocumented.lean ====
section
/-! DEFINITION. Undocumented opcodes (46_undocumented.md R261–R274) and every no-op (45_control_flow_flags.md R247, 46_undocumented.md
R275–R279). -/

namespace Sys2Proof.Machine

/-- `03`, SLO izx (R261). -/
def execSloIzx (d8 : Byte) (s : State) : Result := rmwOp 8 (eaIzx d8 s) aslByte State.orA

/-- `07`, SLO zp (R261). -/
def execSloZp (d8 : Byte) (s : State) : Result := rmwOp 5 (eaZp d8 s) aslByte State.orA

/-- `0F`, SLO abs (R261). -/
def execSloAbs (a16 : Addr) (s : State) : Result := rmwOp 6 (eaAbs a16 s) aslByte State.orA

/-- `13`, SLO izy (R261). -/
def execSloIzy (d8 : Byte) (s : State) : Result := rmwOp 8 (eaIzy d8 s) aslByte State.orA

/-- `17`, SLO zpx (R261). -/
def execSloZpx (d8 : Byte) (s : State) : Result := rmwOp 6 (eaZpx d8 s) aslByte State.orA

/-- `1B`, SLO aby (R261). -/
def execSloAby (a16 : Addr) (s : State) : Result := rmwOp 7 (eaAby a16 s) aslByte State.orA

/-- `1F`, SLO abx (R261). -/
def execSloAbx (a16 : Addr) (s : State) : Result := rmwOp 7 (eaAbx a16 s) aslByte State.orA

/-- `23`, RLA izx (R262). -/
def execRlaIzx (d8 : Byte) (s : State) : Result := rmwOp 8 (eaIzx d8 s) rolByte State.andA

/-- `27`, RLA zp (R262). -/
def execRlaZp (d8 : Byte) (s : State) : Result := rmwOp 5 (eaZp d8 s) rolByte State.andA

/-- `2F`, RLA abs (R262). -/
def execRlaAbs (a16 : Addr) (s : State) : Result := rmwOp 6 (eaAbs a16 s) rolByte State.andA

/-- `33`, RLA izy (R262). -/
def execRlaIzy (d8 : Byte) (s : State) : Result := rmwOp 8 (eaIzy d8 s) rolByte State.andA

/-- `37`, RLA zpx (R262). -/
def execRlaZpx (d8 : Byte) (s : State) : Result := rmwOp 6 (eaZpx d8 s) rolByte State.andA

/-- `3B`, RLA aby (R262). -/
def execRlaAby (a16 : Addr) (s : State) : Result := rmwOp 7 (eaAby a16 s) rolByte State.andA

/-- `3F`, RLA abx (R262). -/
def execRlaAbx (a16 : Addr) (s : State) : Result := rmwOp 7 (eaAbx a16 s) rolByte State.andA

/-- `43`, SRE izx (R263). -/
def execSreIzx (d8 : Byte) (s : State) : Result := rmwOp 8 (eaIzx d8 s) lsrByte State.eorA

/-- `47`, SRE zp (R263). -/
def execSreZp (d8 : Byte) (s : State) : Result := rmwOp 5 (eaZp d8 s) lsrByte State.eorA

/-- `4F`, SRE abs (R263). -/
def execSreAbs (a16 : Addr) (s : State) : Result := rmwOp 6 (eaAbs a16 s) lsrByte State.eorA

/-- `53`, SRE izy (R263). -/
def execSreIzy (d8 : Byte) (s : State) : Result := rmwOp 8 (eaIzy d8 s) lsrByte State.eorA

/-- `57`, SRE zpx (R263). -/
def execSreZpx (d8 : Byte) (s : State) : Result := rmwOp 6 (eaZpx d8 s) lsrByte State.eorA

/-- `5B`, SRE aby (R263). -/
def execSreAby (a16 : Addr) (s : State) : Result := rmwOp 7 (eaAby a16 s) lsrByte State.eorA

/-- `5F`, SRE abx (R263). -/
def execSreAbx (a16 : Addr) (s : State) : Result := rmwOp 7 (eaAbx a16 s) lsrByte State.eorA

/-- `63`, RRA izx (R264). -/
def execRraIzx (d8 : Byte) (s : State) : Result := rmwOp 8 (eaIzx d8 s) rorByte State.adc

/-- `67`, RRA zp (R264). -/
def execRraZp (d8 : Byte) (s : State) : Result := rmwOp 5 (eaZp d8 s) rorByte State.adc

/-- `6F`, RRA abs (R264). -/
def execRraAbs (a16 : Addr) (s : State) : Result := rmwOp 6 (eaAbs a16 s) rorByte State.adc

/-- `73`, RRA izy (R264). -/
def execRraIzy (d8 : Byte) (s : State) : Result := rmwOp 8 (eaIzy d8 s) rorByte State.adc

/-- `77`, RRA zpx (R264). -/
def execRraZpx (d8 : Byte) (s : State) : Result := rmwOp 6 (eaZpx d8 s) rorByte State.adc

/-- `7B`, RRA aby (R264). -/
def execRraAby (a16 : Addr) (s : State) : Result := rmwOp 7 (eaAby a16 s) rorByte State.adc

/-- `7F`, RRA abx (R264). -/
def execRraAbx (a16 : Addr) (s : State) : Result := rmwOp 7 (eaAbx a16 s) rorByte State.adc

/-- `83`, SAX izx (R265). -/
def execSaxIzx (d8 : Byte) (s : State) : Result := writeOp 6 (eaIzx d8 s) (s.a &&& s.x)

/-- `87`, SAX zp (R265). -/
def execSaxZp (d8 : Byte) (s : State) : Result := writeOp 3 (eaZp d8 s) (s.a &&& s.x)

/-- `8F`, SAX abs (R265). -/
def execSaxAbs (a16 : Addr) (s : State) : Result := writeOp 4 (eaAbs a16 s) (s.a &&& s.x)

/-- `97`, SAX zpy (R265). -/
def execSaxZpy (d8 : Byte) (s : State) : Result := writeOp 4 (eaZpy d8 s) (s.a &&& s.x)

/-- `A3`, LAX izx (R266). -/
def execLaxIzx (d8 : Byte) (s : State) : Result := readOp 6 false (eaIzx d8 s) State.loadAX

/-- `A7`, LAX zp (R266). -/
def execLaxZp (d8 : Byte) (s : State) : Result := readOp 3 false (eaZp d8 s) State.loadAX

/-- `AF`, LAX abs (R266). -/
def execLaxAbs (a16 : Addr) (s : State) : Result := readOp 4 false (eaAbs a16 s) State.loadAX

/-- `B3`, LAX izy (R266). -/
def execLaxIzy (d8 : Byte) (s : State) : Result := readOp 5 true (eaIzy d8 s) State.loadAX

/-- `B7`, LAX zpy (R266). -/
def execLaxZpy (d8 : Byte) (s : State) : Result := readOp 4 false (eaZpy d8 s) State.loadAX

/-- `BF`, LAX aby (R266). -/
def execLaxAby (a16 : Addr) (s : State) : Result := readOp 4 true (eaAby a16 s) State.loadAX

/-- `C3`, DCP izx (R267). -/
def execDcpIzx (d8 : Byte) (s : State) : Result := rmwOp 8 (eaIzx d8 s) decByte State.cmpA

/-- `C7`, DCP zp (R267). -/
def execDcpZp (d8 : Byte) (s : State) : Result := rmwOp 5 (eaZp d8 s) decByte State.cmpA

/-- `CF`, DCP abs (R267). -/
def execDcpAbs (a16 : Addr) (s : State) : Result := rmwOp 6 (eaAbs a16 s) decByte State.cmpA

/-- `D3`, DCP izy (R267). -/
def execDcpIzy (d8 : Byte) (s : State) : Result := rmwOp 8 (eaIzy d8 s) decByte State.cmpA

/-- `D7`, DCP zpx (R267). -/
def execDcpZpx (d8 : Byte) (s : State) : Result := rmwOp 6 (eaZpx d8 s) decByte State.cmpA

/-- `DB`, DCP aby (R267). -/
def execDcpAby (a16 : Addr) (s : State) : Result := rmwOp 7 (eaAby a16 s) decByte State.cmpA

/-- `DF`, DCP abx (R267). -/
def execDcpAbx (a16 : Addr) (s : State) : Result := rmwOp 7 (eaAbx a16 s) decByte State.cmpA

/-- `E3`, ISC izx (R268). -/
def execIscIzx (d8 : Byte) (s : State) : Result := rmwOp 8 (eaIzx d8 s) incByte State.sbc

/-- `E7`, ISC zp (R268). -/
def execIscZp (d8 : Byte) (s : State) : Result := rmwOp 5 (eaZp d8 s) incByte State.sbc

/-- `EF`, ISC abs (R268). -/
def execIscAbs (a16 : Addr) (s : State) : Result := rmwOp 6 (eaAbs a16 s) incByte State.sbc

/-- `F3`, ISC izy (R268). -/
def execIscIzy (d8 : Byte) (s : State) : Result := rmwOp 8 (eaIzy d8 s) incByte State.sbc

/-- `F7`, ISC zpx (R268). -/
def execIscZpx (d8 : Byte) (s : State) : Result := rmwOp 6 (eaZpx d8 s) incByte State.sbc

/-- `FB`, ISC aby (R268). -/
def execIscAby (a16 : Addr) (s : State) : Result := rmwOp 7 (eaAby a16 s) incByte State.sbc

/-- `FF`, ISC abx (R268). -/
def execIscAbx (a16 : Addr) (s : State) : Result := rmwOp 7 (eaAbx a16 s) incByte State.sbc

/-- `0B`, ANC imm (R269). -/
def execAnc0B (d8 : Byte) (s : State) : Result := immOp 2 d8 s State.anc

/-- `2B`, ANC imm (R269). -/
def execAnc2B (d8 : Byte) (s : State) : Result := immOp 2 d8 s State.anc

/-- `4B`, ALR imm (R270). -/
def execAlr (d8 : Byte) (s : State) : Result := immOp 2 d8 s State.alr

/-- `6B`, ARR imm (R271). -/
def execArr (d8 : Byte) (s : State) : Result := immOp 2 d8 s State.arr

/-- `CB`, SBX imm (R272). -/
def execSbx (d8 : Byte) (s : State) : Result := immOp 2 d8 s State.sbx

/-- `EB`, USBC imm (R273). -/
def execUsbc (d8 : Byte) (s : State) : Result := immOp 2 d8 s State.sbc

/-- `BB`, LAS aby (R274). -/
def execLas (a16 : Addr) (s : State) : Result := readOp 4 true (eaAby a16 s) State.loadAXS

/-- `02`, NOP imp (the JAM position) (R278). -/
def execNop02 (s : State) : Result := impliedOp 2 s

/-- `04`, NOP zp (R277). -/
def execNop04 (d8 : Byte) (s : State) : Result := skipOp 3 false (eaZp d8 s)

/-- `0C`, NOP abs (R277). -/
def execNop0C (a16 : Addr) (s : State) : Result := skipOp 4 false (eaAbs a16 s)

/-- `12`, NOP imp (the JAM position) (R278). -/
def execNop12 (s : State) : Result := impliedOp 2 s

/-- `14`, NOP zpx (R277). -/
def execNop14 (d8 : Byte) (s : State) : Result := skipOp 4 false (eaZpx d8 s)

/-- `1A`, NOP imp (R275). -/
def execNop1A (s : State) : Result := impliedOp 2 s

/-- `1C`, NOP abx (R277). -/
def execNop1C (a16 : Addr) (s : State) : Result := skipOp 4 true (eaAbx a16 s)

/-- `22`, NOP imp (the JAM position) (R278). -/
def execNop22 (s : State) : Result := impliedOp 2 s

/-- `32`, NOP imp (the JAM position) (R278). -/
def execNop32 (s : State) : Result := impliedOp 2 s

/-- `34`, NOP zpx (R277). -/
def execNop34 (d8 : Byte) (s : State) : Result := skipOp 4 false (eaZpx d8 s)

/-- `3A`, NOP imp (R275). -/
def execNop3A (s : State) : Result := impliedOp 2 s

/-- `3C`, NOP abx (R277). -/
def execNop3C (a16 : Addr) (s : State) : Result := skipOp 4 true (eaAbx a16 s)

/-- `42`, NOP imp (the JAM position) (R278). -/
def execNop42 (s : State) : Result := impliedOp 2 s

/-- `44`, NOP zp (R277). -/
def execNop44 (d8 : Byte) (s : State) : Result := skipOp 3 false (eaZp d8 s)

/-- `52`, NOP imp (the JAM position) (R278). -/
def execNop52 (s : State) : Result := impliedOp 2 s

/-- `54`, NOP zpx (R277). -/
def execNop54 (d8 : Byte) (s : State) : Result := skipOp 4 false (eaZpx d8 s)

/-- `5A`, NOP imp (R275). -/
def execNop5A (s : State) : Result := impliedOp 2 s

/-- `5C`, NOP abx (R277). -/
def execNop5C (a16 : Addr) (s : State) : Result := skipOp 4 true (eaAbx a16 s)

/-- `62`, NOP imp (the JAM position) (R278). -/
def execNop62 (s : State) : Result := impliedOp 2 s

/-- `64`, NOP zp (R277). -/
def execNop64 (d8 : Byte) (s : State) : Result := skipOp 3 false (eaZp d8 s)

/-- `72`, NOP imp (the JAM position) (R278). -/
def execNop72 (s : State) : Result := impliedOp 2 s

/-- `74`, NOP zpx (R277). -/
def execNop74 (d8 : Byte) (s : State) : Result := skipOp 4 false (eaZpx d8 s)

/-- `7A`, NOP imp (R275). -/
def execNop7A (s : State) : Result := impliedOp 2 s

/-- `7C`, NOP abx (R277). -/
def execNop7C (a16 : Addr) (s : State) : Result := skipOp 4 true (eaAbx a16 s)

/-- `80`, NOP imm (R276). -/
def execNop80 (_d8 : Byte) (s : State) : Result := impliedOp 2 s

/-- `82`, NOP imm (R276). -/
def execNop82 (_d8 : Byte) (s : State) : Result := impliedOp 2 s

/-- `89`, NOP imm (R276). -/
def execNop89 (_d8 : Byte) (s : State) : Result := impliedOp 2 s

/-- `8B`, NOP imm (the ANE position) (R279). -/
def execNop8B (_d8 : Byte) (s : State) : Result := impliedOp 2 s

/-- `92`, NOP imp (the JAM position) (R278). -/
def execNop92 (s : State) : Result := impliedOp 2 s

/-- `93`, NOP izy (the SHA position) (R279). -/
def execNop93 (d8 : Byte) (s : State) : Result := skipOp 6 false (eaIzy d8 s)

/-- `9B`, NOP aby (the TAS position) (R279). -/
def execNop9B (a16 : Addr) (s : State) : Result := skipOp 5 false (eaAby a16 s)

/-- `9C`, NOP abx (the SHY position) (R279). -/
def execNop9C (a16 : Addr) (s : State) : Result := skipOp 5 false (eaAbx a16 s)

/-- `9E`, NOP aby (the SHX position) (R279). -/
def execNop9E (a16 : Addr) (s : State) : Result := skipOp 5 false (eaAby a16 s)

/-- `9F`, NOP aby (the SHA position) (R279). -/
def execNop9F (a16 : Addr) (s : State) : Result := skipOp 5 false (eaAby a16 s)

/-- `AB`, NOP imm (the LXA position) (R279). -/
def execNopAB (_d8 : Byte) (s : State) : Result := impliedOp 2 s

/-- `B2`, NOP imp (the JAM position) (R278). -/
def execNopB2 (s : State) : Result := impliedOp 2 s

/-- `C2`, NOP imm (R276). -/
def execNopC2 (_d8 : Byte) (s : State) : Result := impliedOp 2 s

/-- `D2`, NOP imp (the JAM position) (R278). -/
def execNopD2 (s : State) : Result := impliedOp 2 s

/-- `D4`, NOP zpx (R277). -/
def execNopD4 (d8 : Byte) (s : State) : Result := skipOp 4 false (eaZpx d8 s)

/-- `DA`, NOP imp (R275). -/
def execNopDA (s : State) : Result := impliedOp 2 s

/-- `DC`, NOP abx (R277). -/
def execNopDC (a16 : Addr) (s : State) : Result := skipOp 4 true (eaAbx a16 s)

/-- `E2`, NOP imm (R276). -/
def execNopE2 (_d8 : Byte) (s : State) : Result := impliedOp 2 s

/-- `EA`, NOP imp (R247). -/
def execNop (s : State) : Result := impliedOp 2 s

/-- `F2`, NOP imp (the JAM position) (R278). -/
def execNopF2 (s : State) : Result := impliedOp 2 s

/-- `F4`, NOP zpx (R277). -/
def execNopF4 (d8 : Byte) (s : State) : Result := skipOp 4 false (eaZpx d8 s)

/-- `FA`, NOP imp (R275). -/
def execNopFA (s : State) : Result := impliedOp 2 s

/-- `FC`, NOP abx (R277). -/
def execNopFC (a16 : Addr) (s : State) : Result := skipOp 4 true (eaAbx a16 s)

end Sys2Proof.Machine
end

