-- ==== Sys2Proof/Machine/Dispatch.lean ====
section
/-! DEFINITION. The one dispatch from an instruction to its meaning, one arm per constructor. -/

namespace Sys2Proof.Machine

def exec (i : Instr) (s : State) : Host.Outcome State Fault Refusal :=
  match i with
  | .brk => Sys2Proof.Machine.execBrk s
  | .oraIzx d8 => Sys2Proof.Machine.execOraIzx d8 s
  | .nop02 => Sys2Proof.Machine.execNop02 s
  | .sloIzx d8 => Sys2Proof.Machine.execSloIzx d8 s
  | .nop04 d8 => Sys2Proof.Machine.execNop04 d8 s
  | .oraZp d8 => Sys2Proof.Machine.execOraZp d8 s
  | .aslZp d8 => Sys2Proof.Machine.execAslZp d8 s
  | .sloZp d8 => Sys2Proof.Machine.execSloZp d8 s
  | .php => Sys2Proof.Machine.execPhp s
  | .oraImm d8 => Sys2Proof.Machine.execOraImm d8 s
  | .aslAcc => Sys2Proof.Machine.execAslAcc s
  | .anc0B d8 => Sys2Proof.Machine.execAnc0B d8 s
  | .nop0C a16 => Sys2Proof.Machine.execNop0C a16 s
  | .oraAbs a16 => Sys2Proof.Machine.execOraAbs a16 s
  | .aslAbs a16 => Sys2Proof.Machine.execAslAbs a16 s
  | .sloAbs a16 => Sys2Proof.Machine.execSloAbs a16 s
  | .bpl d8 => Sys2Proof.Machine.execBpl d8 s
  | .oraIzy d8 => Sys2Proof.Machine.execOraIzy d8 s
  | .nop12 => Sys2Proof.Machine.execNop12 s
  | .sloIzy d8 => Sys2Proof.Machine.execSloIzy d8 s
  | .nop14 d8 => Sys2Proof.Machine.execNop14 d8 s
  | .oraZpx d8 => Sys2Proof.Machine.execOraZpx d8 s
  | .aslZpx d8 => Sys2Proof.Machine.execAslZpx d8 s
  | .sloZpx d8 => Sys2Proof.Machine.execSloZpx d8 s
  | .clc => Sys2Proof.Machine.execClc s
  | .oraAby a16 => Sys2Proof.Machine.execOraAby a16 s
  | .nop1A => Sys2Proof.Machine.execNop1A s
  | .sloAby a16 => Sys2Proof.Machine.execSloAby a16 s
  | .nop1C a16 => Sys2Proof.Machine.execNop1C a16 s
  | .oraAbx a16 => Sys2Proof.Machine.execOraAbx a16 s
  | .aslAbx a16 => Sys2Proof.Machine.execAslAbx a16 s
  | .sloAbx a16 => Sys2Proof.Machine.execSloAbx a16 s
  | .jsr a16 => Sys2Proof.Machine.execJsr a16 s
  | .andIzx d8 => Sys2Proof.Machine.execAndIzx d8 s
  | .nop22 => Sys2Proof.Machine.execNop22 s
  | .rlaIzx d8 => Sys2Proof.Machine.execRlaIzx d8 s
  | .bitZp d8 => Sys2Proof.Machine.execBitZp d8 s
  | .andZp d8 => Sys2Proof.Machine.execAndZp d8 s
  | .rolZp d8 => Sys2Proof.Machine.execRolZp d8 s
  | .rlaZp d8 => Sys2Proof.Machine.execRlaZp d8 s
  | .plp => Sys2Proof.Machine.execPlp s
  | .andImm d8 => Sys2Proof.Machine.execAndImm d8 s
  | .rolAcc => Sys2Proof.Machine.execRolAcc s
  | .anc2B d8 => Sys2Proof.Machine.execAnc2B d8 s
  | .bitAbs a16 => Sys2Proof.Machine.execBitAbs a16 s
  | .andAbs a16 => Sys2Proof.Machine.execAndAbs a16 s
  | .rolAbs a16 => Sys2Proof.Machine.execRolAbs a16 s
  | .rlaAbs a16 => Sys2Proof.Machine.execRlaAbs a16 s
  | .bmi d8 => Sys2Proof.Machine.execBmi d8 s
  | .andIzy d8 => Sys2Proof.Machine.execAndIzy d8 s
  | .nop32 => Sys2Proof.Machine.execNop32 s
  | .rlaIzy d8 => Sys2Proof.Machine.execRlaIzy d8 s
  | .nop34 d8 => Sys2Proof.Machine.execNop34 d8 s
  | .andZpx d8 => Sys2Proof.Machine.execAndZpx d8 s
  | .rolZpx d8 => Sys2Proof.Machine.execRolZpx d8 s
  | .rlaZpx d8 => Sys2Proof.Machine.execRlaZpx d8 s
  | .sec => Sys2Proof.Machine.execSec s
  | .andAby a16 => Sys2Proof.Machine.execAndAby a16 s
  | .nop3A => Sys2Proof.Machine.execNop3A s
  | .rlaAby a16 => Sys2Proof.Machine.execRlaAby a16 s
  | .nop3C a16 => Sys2Proof.Machine.execNop3C a16 s
  | .andAbx a16 => Sys2Proof.Machine.execAndAbx a16 s
  | .rolAbx a16 => Sys2Proof.Machine.execRolAbx a16 s
  | .rlaAbx a16 => Sys2Proof.Machine.execRlaAbx a16 s
  | .rti => Sys2Proof.Machine.execRti s
  | .eorIzx d8 => Sys2Proof.Machine.execEorIzx d8 s
  | .nop42 => Sys2Proof.Machine.execNop42 s
  | .sreIzx d8 => Sys2Proof.Machine.execSreIzx d8 s
  | .nop44 d8 => Sys2Proof.Machine.execNop44 d8 s
  | .eorZp d8 => Sys2Proof.Machine.execEorZp d8 s
  | .lsrZp d8 => Sys2Proof.Machine.execLsrZp d8 s
  | .sreZp d8 => Sys2Proof.Machine.execSreZp d8 s
  | .pha => Sys2Proof.Machine.execPha s
  | .eorImm d8 => Sys2Proof.Machine.execEorImm d8 s
  | .lsrAcc => Sys2Proof.Machine.execLsrAcc s
  | .alr d8 => Sys2Proof.Machine.execAlr d8 s
  | .jmpAbs a16 => Sys2Proof.Machine.execJmpAbs a16 s
  | .eorAbs a16 => Sys2Proof.Machine.execEorAbs a16 s
  | .lsrAbs a16 => Sys2Proof.Machine.execLsrAbs a16 s
  | .sreAbs a16 => Sys2Proof.Machine.execSreAbs a16 s
  | .bvc d8 => Sys2Proof.Machine.execBvc d8 s
  | .eorIzy d8 => Sys2Proof.Machine.execEorIzy d8 s
  | .nop52 => Sys2Proof.Machine.execNop52 s
  | .sreIzy d8 => Sys2Proof.Machine.execSreIzy d8 s
  | .nop54 d8 => Sys2Proof.Machine.execNop54 d8 s
  | .eorZpx d8 => Sys2Proof.Machine.execEorZpx d8 s
  | .lsrZpx d8 => Sys2Proof.Machine.execLsrZpx d8 s
  | .sreZpx d8 => Sys2Proof.Machine.execSreZpx d8 s
  | .cli => Sys2Proof.Machine.execCli s
  | .eorAby a16 => Sys2Proof.Machine.execEorAby a16 s
  | .nop5A => Sys2Proof.Machine.execNop5A s
  | .sreAby a16 => Sys2Proof.Machine.execSreAby a16 s
  | .nop5C a16 => Sys2Proof.Machine.execNop5C a16 s
  | .eorAbx a16 => Sys2Proof.Machine.execEorAbx a16 s
  | .lsrAbx a16 => Sys2Proof.Machine.execLsrAbx a16 s
  | .sreAbx a16 => Sys2Proof.Machine.execSreAbx a16 s
  | .rts => Sys2Proof.Machine.execRts s
  | .adcIzx d8 => Sys2Proof.Machine.execAdcIzx d8 s
  | .nop62 => Sys2Proof.Machine.execNop62 s
  | .rraIzx d8 => Sys2Proof.Machine.execRraIzx d8 s
  | .nop64 d8 => Sys2Proof.Machine.execNop64 d8 s
  | .adcZp d8 => Sys2Proof.Machine.execAdcZp d8 s
  | .rorZp d8 => Sys2Proof.Machine.execRorZp d8 s
  | .rraZp d8 => Sys2Proof.Machine.execRraZp d8 s
  | .pla => Sys2Proof.Machine.execPla s
  | .adcImm d8 => Sys2Proof.Machine.execAdcImm d8 s
  | .rorAcc => Sys2Proof.Machine.execRorAcc s
  | .arr d8 => Sys2Proof.Machine.execArr d8 s
  | .jmpInd a16 => Sys2Proof.Machine.execJmpInd a16 s
  | .adcAbs a16 => Sys2Proof.Machine.execAdcAbs a16 s
  | .rorAbs a16 => Sys2Proof.Machine.execRorAbs a16 s
  | .rraAbs a16 => Sys2Proof.Machine.execRraAbs a16 s
  | .bvs d8 => Sys2Proof.Machine.execBvs d8 s
  | .adcIzy d8 => Sys2Proof.Machine.execAdcIzy d8 s
  | .nop72 => Sys2Proof.Machine.execNop72 s
  | .rraIzy d8 => Sys2Proof.Machine.execRraIzy d8 s
  | .nop74 d8 => Sys2Proof.Machine.execNop74 d8 s
  | .adcZpx d8 => Sys2Proof.Machine.execAdcZpx d8 s
  | .rorZpx d8 => Sys2Proof.Machine.execRorZpx d8 s
  | .rraZpx d8 => Sys2Proof.Machine.execRraZpx d8 s
  | .sei => Sys2Proof.Machine.execSei s
  | .adcAby a16 => Sys2Proof.Machine.execAdcAby a16 s
  | .nop7A => Sys2Proof.Machine.execNop7A s
  | .rraAby a16 => Sys2Proof.Machine.execRraAby a16 s
  | .nop7C a16 => Sys2Proof.Machine.execNop7C a16 s
  | .adcAbx a16 => Sys2Proof.Machine.execAdcAbx a16 s
  | .rorAbx a16 => Sys2Proof.Machine.execRorAbx a16 s
  | .rraAbx a16 => Sys2Proof.Machine.execRraAbx a16 s
  | .nop80 d8 => Sys2Proof.Machine.execNop80 d8 s
  | .staIzx d8 => Sys2Proof.Machine.execStaIzx d8 s
  | .nop82 d8 => Sys2Proof.Machine.execNop82 d8 s
  | .saxIzx d8 => Sys2Proof.Machine.execSaxIzx d8 s
  | .styZp d8 => Sys2Proof.Machine.execStyZp d8 s
  | .staZp d8 => Sys2Proof.Machine.execStaZp d8 s
  | .stxZp d8 => Sys2Proof.Machine.execStxZp d8 s
  | .saxZp d8 => Sys2Proof.Machine.execSaxZp d8 s
  | .dey => Sys2Proof.Machine.execDey s
  | .nop89 d8 => Sys2Proof.Machine.execNop89 d8 s
  | .txa => Sys2Proof.Machine.execTxa s
  | .nop8B d8 => Sys2Proof.Machine.execNop8B d8 s
  | .styAbs a16 => Sys2Proof.Machine.execStyAbs a16 s
  | .staAbs a16 => Sys2Proof.Machine.execStaAbs a16 s
  | .stxAbs a16 => Sys2Proof.Machine.execStxAbs a16 s
  | .saxAbs a16 => Sys2Proof.Machine.execSaxAbs a16 s
  | .bcc d8 => Sys2Proof.Machine.execBcc d8 s
  | .staIzy d8 => Sys2Proof.Machine.execStaIzy d8 s
  | .nop92 => Sys2Proof.Machine.execNop92 s
  | .nop93 d8 => Sys2Proof.Machine.execNop93 d8 s
  | .styZpx d8 => Sys2Proof.Machine.execStyZpx d8 s
  | .staZpx d8 => Sys2Proof.Machine.execStaZpx d8 s
  | .stxZpy d8 => Sys2Proof.Machine.execStxZpy d8 s
  | .saxZpy d8 => Sys2Proof.Machine.execSaxZpy d8 s
  | .tya => Sys2Proof.Machine.execTya s
  | .staAby a16 => Sys2Proof.Machine.execStaAby a16 s
  | .txs => Sys2Proof.Machine.execTxs s
  | .nop9B a16 => Sys2Proof.Machine.execNop9B a16 s
  | .nop9C a16 => Sys2Proof.Machine.execNop9C a16 s
  | .staAbx a16 => Sys2Proof.Machine.execStaAbx a16 s
  | .nop9E a16 => Sys2Proof.Machine.execNop9E a16 s
  | .nop9F a16 => Sys2Proof.Machine.execNop9F a16 s
  | .ldyImm d8 => Sys2Proof.Machine.execLdyImm d8 s
  | .ldaIzx d8 => Sys2Proof.Machine.execLdaIzx d8 s
  | .ldxImm d8 => Sys2Proof.Machine.execLdxImm d8 s
  | .laxIzx d8 => Sys2Proof.Machine.execLaxIzx d8 s
  | .ldyZp d8 => Sys2Proof.Machine.execLdyZp d8 s
  | .ldaZp d8 => Sys2Proof.Machine.execLdaZp d8 s
  | .ldxZp d8 => Sys2Proof.Machine.execLdxZp d8 s
  | .laxZp d8 => Sys2Proof.Machine.execLaxZp d8 s
  | .tay => Sys2Proof.Machine.execTay s
  | .ldaImm d8 => Sys2Proof.Machine.execLdaImm d8 s
  | .tax => Sys2Proof.Machine.execTax s
  | .nopAB d8 => Sys2Proof.Machine.execNopAB d8 s
  | .ldyAbs a16 => Sys2Proof.Machine.execLdyAbs a16 s
  | .ldaAbs a16 => Sys2Proof.Machine.execLdaAbs a16 s
  | .ldxAbs a16 => Sys2Proof.Machine.execLdxAbs a16 s
  | .laxAbs a16 => Sys2Proof.Machine.execLaxAbs a16 s
  | .bcs d8 => Sys2Proof.Machine.execBcs d8 s
  | .ldaIzy d8 => Sys2Proof.Machine.execLdaIzy d8 s
  | .nopB2 => Sys2Proof.Machine.execNopB2 s
  | .laxIzy d8 => Sys2Proof.Machine.execLaxIzy d8 s
  | .ldyZpx d8 => Sys2Proof.Machine.execLdyZpx d8 s
  | .ldaZpx d8 => Sys2Proof.Machine.execLdaZpx d8 s
  | .ldxZpy d8 => Sys2Proof.Machine.execLdxZpy d8 s
  | .laxZpy d8 => Sys2Proof.Machine.execLaxZpy d8 s
  | .clv => Sys2Proof.Machine.execClv s
  | .ldaAby a16 => Sys2Proof.Machine.execLdaAby a16 s
  | .tsx => Sys2Proof.Machine.execTsx s
  | .las a16 => Sys2Proof.Machine.execLas a16 s
  | .ldyAbx a16 => Sys2Proof.Machine.execLdyAbx a16 s
  | .ldaAbx a16 => Sys2Proof.Machine.execLdaAbx a16 s
  | .ldxAby a16 => Sys2Proof.Machine.execLdxAby a16 s
  | .laxAby a16 => Sys2Proof.Machine.execLaxAby a16 s
  | .cpyImm d8 => Sys2Proof.Machine.execCpyImm d8 s
  | .cmpIzx d8 => Sys2Proof.Machine.execCmpIzx d8 s
  | .nopC2 d8 => Sys2Proof.Machine.execNopC2 d8 s
  | .dcpIzx d8 => Sys2Proof.Machine.execDcpIzx d8 s
  | .cpyZp d8 => Sys2Proof.Machine.execCpyZp d8 s
  | .cmpZp d8 => Sys2Proof.Machine.execCmpZp d8 s
  | .decZp d8 => Sys2Proof.Machine.execDecZp d8 s
  | .dcpZp d8 => Sys2Proof.Machine.execDcpZp d8 s
  | .iny => Sys2Proof.Machine.execIny s
  | .cmpImm d8 => Sys2Proof.Machine.execCmpImm d8 s
  | .dex => Sys2Proof.Machine.execDex s
  | .sbx d8 => Sys2Proof.Machine.execSbx d8 s
  | .cpyAbs a16 => Sys2Proof.Machine.execCpyAbs a16 s
  | .cmpAbs a16 => Sys2Proof.Machine.execCmpAbs a16 s
  | .decAbs a16 => Sys2Proof.Machine.execDecAbs a16 s
  | .dcpAbs a16 => Sys2Proof.Machine.execDcpAbs a16 s
  | .bne d8 => Sys2Proof.Machine.execBne d8 s
  | .cmpIzy d8 => Sys2Proof.Machine.execCmpIzy d8 s
  | .nopD2 => Sys2Proof.Machine.execNopD2 s
  | .dcpIzy d8 => Sys2Proof.Machine.execDcpIzy d8 s
  | .nopD4 d8 => Sys2Proof.Machine.execNopD4 d8 s
  | .cmpZpx d8 => Sys2Proof.Machine.execCmpZpx d8 s
  | .decZpx d8 => Sys2Proof.Machine.execDecZpx d8 s
  | .dcpZpx d8 => Sys2Proof.Machine.execDcpZpx d8 s
  | .cld => Sys2Proof.Machine.execCld s
  | .cmpAby a16 => Sys2Proof.Machine.execCmpAby a16 s
  | .nopDA => Sys2Proof.Machine.execNopDA s
  | .dcpAby a16 => Sys2Proof.Machine.execDcpAby a16 s
  | .nopDC a16 => Sys2Proof.Machine.execNopDC a16 s
  | .cmpAbx a16 => Sys2Proof.Machine.execCmpAbx a16 s
  | .decAbx a16 => Sys2Proof.Machine.execDecAbx a16 s
  | .dcpAbx a16 => Sys2Proof.Machine.execDcpAbx a16 s
  | .cpxImm d8 => Sys2Proof.Machine.execCpxImm d8 s
  | .sbcIzx d8 => Sys2Proof.Machine.execSbcIzx d8 s
  | .nopE2 d8 => Sys2Proof.Machine.execNopE2 d8 s
  | .iscIzx d8 => Sys2Proof.Machine.execIscIzx d8 s
  | .cpxZp d8 => Sys2Proof.Machine.execCpxZp d8 s
  | .sbcZp d8 => Sys2Proof.Machine.execSbcZp d8 s
  | .incZp d8 => Sys2Proof.Machine.execIncZp d8 s
  | .iscZp d8 => Sys2Proof.Machine.execIscZp d8 s
  | .inx => Sys2Proof.Machine.execInx s
  | .sbcImm d8 => Sys2Proof.Machine.execSbcImm d8 s
  | .nop => Sys2Proof.Machine.execNop s
  | .usbc d8 => Sys2Proof.Machine.execUsbc d8 s
  | .cpxAbs a16 => Sys2Proof.Machine.execCpxAbs a16 s
  | .sbcAbs a16 => Sys2Proof.Machine.execSbcAbs a16 s
  | .incAbs a16 => Sys2Proof.Machine.execIncAbs a16 s
  | .iscAbs a16 => Sys2Proof.Machine.execIscAbs a16 s
  | .beq d8 => Sys2Proof.Machine.execBeq d8 s
  | .sbcIzy d8 => Sys2Proof.Machine.execSbcIzy d8 s
  | .nopF2 => Sys2Proof.Machine.execNopF2 s
  | .iscIzy d8 => Sys2Proof.Machine.execIscIzy d8 s
  | .nopF4 d8 => Sys2Proof.Machine.execNopF4 d8 s
  | .sbcZpx d8 => Sys2Proof.Machine.execSbcZpx d8 s
  | .incZpx d8 => Sys2Proof.Machine.execIncZpx d8 s
  | .iscZpx d8 => Sys2Proof.Machine.execIscZpx d8 s
  | .sed => Sys2Proof.Machine.execSed s
  | .sbcAby a16 => Sys2Proof.Machine.execSbcAby a16 s
  | .nopFA => Sys2Proof.Machine.execNopFA s
  | .iscAby a16 => Sys2Proof.Machine.execIscAby a16 s
  | .nopFC a16 => Sys2Proof.Machine.execNopFC a16 s
  | .sbcAbx a16 => Sys2Proof.Machine.execSbcAbx a16 s
  | .incAbx a16 => Sys2Proof.Machine.execIncAbx a16 s
  | .iscAbx a16 => Sys2Proof.Machine.execIscAbx a16 s

end Sys2Proof.Machine
end

