-- ==== Sys2Proof/Machine/Fetch.lean ====
section
/-! DEFINITION. Fetching an instruction's bytes through the Bus (20_memory.md R83, R84; 60_exceptions.md R300). -/

namespace Sys2Proof.Machine

/-- Whether the opcode's operand byte is skipped without being read: the immediate no-ops (40_addressing.md R132, 46_undocumented.md
R276, 90_conflicts.md C6). -/
def operandSkipped (op : Byte) : Bool := (rowOf op).mnemonic = .nop && (rowOf op).mode = .imm

/-- Reads the byte at `PC` and advances `PC` (10_state.md R25). -/
def State.fetchByte (s : State) : Byte × State :=
  let b := s.memRead s.pc
  (b.1, { b.2 with pc := s.pc + 1 })

/-- The bytes of the instruction at `PC`, and the state after their fetch: the opcode is latched (10_state.md R31), the operand bytes are
read at ascending addresses, and `PC` is past the instruction. A skipped operand byte is shown as it stands, without a read
(log 17). -/
def State.fetch (s : State) : List Byte × State :=
  let op := s.fetchByte
  let s1 := { op.2 with opcode := op.1 }
  match (rowOf op.1).build with
  | .f1 _ => ([op.1], s1)
  | .f2 _ =>
    if operandSkipped op.1 then ([op.1, s1.peek s1.pc], { s1 with pc := s1.pc + 1 })
    else
      let d8 := s1.fetchByte
      ([op.1, d8.1], d8.2)
  | .f3 _ =>
    let l := s1.fetchByte
    let h := l.2.fetchByte
    ([op.1, l.1, h.1], h.2)

end Sys2Proof.Machine
end

