-- ==== Sys2Proof/Machine/Cpu.lean ====
section
/-! DEFINITION. The CPU step (60_exceptions.md R300–R304) and the wiring of its interrupt inputs (R302). -/

namespace Sys2Proof.Machine

/-- `HOOK(PC)` (60_exceptions.md R301, R384); an absent hook lets every step proceed. -/
def Hook.allows (h : Hook) (pc : Addr) : Bool :=
  match h with
  | .absent => true
  | .breakpoint set => !set.contains pc
  | .runTo target set => pc != target && !set.contains pc

/-- `SetIrqLine(level)` (60_exceptions.md R302). -/
def State.setIrqLine (s : State) (level : Bool) : State := { s with inputs := { s.inputs with irqLine := level } }

/-- `SetNmiLine(level)` (60_exceptions.md R302): a rising edge is latched. -/
def State.setNmiLine (s : State) (level : Bool) : State :=
  { s with inputs := { s.inputs with
      nmiLine := level, nmiPending := s.inputs.nmiPending || (!s.inputs.nmiLine && level) } }

/-- The Machine's wiring, before every CPU step (60_exceptions.md R302): IRQ from the PIA if `PIA_IRQ_WIRED`, NMI tied inactive. A CPU
standing alone has its inputs driven from outside (log 5). -/
def State.wireInputs (s : State) : State :=
  if s.wiring.cpuAlone then s
  else (s.setIrqLine (s.wiring.piaIrqWired && (s.pia.portA.irq || s.pia.portB.irq))).setNmiLine false

/-- The results of `CpuStep` (60_exceptions.md R300). -/
inductive CpuResult where
  | halted
  | nmi
  | irq
  | ok
  deriving DecidableEq, Repr

/-- Whether a step takes the IRQ (60_exceptions.md R303). -/
def State.irqTaken (s : State) : Bool := s.inputs.irqLine && !s.flags.i

/-- The NMI entry (60_exceptions.md R304). -/
def State.takeNmi (s : State) : State :=
  (({ s with inputs := { s.inputs with nmiPending := false } } : State).interrupt nmiVector false).charge 7

/-- The IRQ entry (60_exceptions.md R303). -/
def State.takeIrq (s : State) : State := (s.interrupt irqVector false).charge 7

/-- Fetch, decode and execute one instruction (60_exceptions.md R300, steps 3–7). -/
def State.runInstr (s : State) : Result :=
  match decode s.fetch.1 with
  | .ok r => exec r.1 s.fetch.2
  | .error _ => .refused .truncatedFetch

/-- `CpuStep` (60_exceptions.md R300): the hook, then NMI, then IRQ, then one instruction. -/
def cpuStep (s : State) : Host.Outcome (CpuResult × State) Fault Refusal :=
  if !s.hook.allows s.pc then .next (.halted, s)
  else if s.inputs.nmiPending then .next (.nmi, s.takeNmi)
  else if s.irqTaken then .next (.irq, s.takeIrq)
  else
    match s.runInstr with
    | .next t => .next (.ok, t)
    | .fault r => .fault r
    | .refused r => .refused r

end Sys2Proof.Machine
end

