-- ==== Sys2Proof/Machine/Scheduler.lean ====
section
/-! DEFINITION. The Clock and the Scheduler (60_exceptions.md R360–R368) and the end-of-turn flush (R354). One `step` of the model
is one CPU step of the quantum in progress; `quantumLeft` counts the rest of it (log 8). -/

namespace Sys2Proof.Machine

/-- Sends an event to the host (60_exceptions.md R388). -/
def State.emit (s : State) (e : HostEvent) : State := { s with hostEvents := s.hostEvents ++ [e] }

/-- `PiaFlush()` (60_exceptions.md R354). -/
def State.flush (s : State) : State :=
  if s.pia.notifyPending then
    let t : State := { s with pia := { s.pia with notifyPending := false } }
    t.emit (.deviceUpdate t.pia)
  else s

/-- `Pause()` (60_exceptions.md R363). -/
def State.pause (s : State) : State := { s with clock := { s.clock with paused := true } }

/-- `ResetTiming()` (60_exceptions.md R365). -/
def State.resetTiming (s : State) (now : Rat) : State :=
  { s with clock := { s.clock with anchorTime := some now, anchorCycles := some s.cycles, drift := 0 } }

/-- `Resume()` (60_exceptions.md R364): re-anchors the Clock and clears `paused`; while `faulted` it clears `paused` and has no other
effect (log 26). -/
def State.resume (s : State) (now : Rat) : State :=
  { s with clock := { (if s.faulted then s else s.resetTiming now).clock with paused := false } }

/-- `SetCycleAccurate(flag)` (60_exceptions.md R366). -/
def State.setCycleAccurate (s : State) (flag : Bool) : State :=
  { s with clock := { s.clock with cycleAccurate := flag } }

/-- What a component failure does (60_exceptions.md R368). The rest of the state, which "no rule may rely on", is left as it
was before the step (log 13). In the fixed Machine nothing fails (20_memory.md R68). -/
def State.machineFault (s : State) : State :=
  ({ s with faulted := true, clock := { s.clock with paused := true } } : State).emit .fault

/-- No step may happen (60_exceptions.md R361). -/
def State.stopped (s : State) : Bool := s.clock.paused || s.faulted

/-- The end of a quantum (60_exceptions.md R361). -/
def State.endQuantum (s : State) : State := ({ s with quantumLeft := 0 } : State).flush

/-- What the quantum does after one CPU step (60_exceptions.md R361): a halt pauses the Clock and is told to the host; the quantum ends
with a flush when its steps are used up or the machine is stopped. -/
def State.afterCpuStep (r : CpuResult) (s : State) : State :=
  if r = .halted then (s.pause.emit (.hookHalted s.pc)).endQuantum
  else if s.quantumLeft ≤ 1 || s.stopped then s.endQuantum
  else { s with quantumLeft := s.quantumLeft - 1 }

/-- One CPU step of the quantum in progress, the inputs wired first (60_exceptions.md R302, R361, R368). -/
def cpuTurn (s : State) : Result :=
  match cpuStep s.wireInputs with
  | .next r => .next (r.2.afterCpuStep r.1)
  | .fault _ => .next s.machineFault.endQuantum
  | .refused r => .refused r

/-- The number of steps of a quantum (60_exceptions.md R361): `CHUNK` in fast mode; in cycle-accurate mode any number from 1 to `CHUNK`,
as asked for (log 8). -/
def quantumLength (asked : Nat) (clock : Clock) : Nat :=
  if clock.cycleAccurate then max 1 (min asked clock.chunk) else max 1 clock.chunk

/-- `Quantum()` (60_exceptions.md R361), up to and including its first CPU step. -/
def startQuantum (asked : Nat) (s : State) : Result :=
  if s.stopped then .next s
  else cpuTurn { s with quantumLeft := quantumLength asked s.clock }

/-- A step while a quantum is in progress (60_exceptions.md R361): the loop is left if the machine was stopped. -/
def continueQuantum (s : State) : Result :=
  if s.stopped then .next s.endQuantum else cpuTurn s

end Sys2Proof.Machine
end

