-- ==== Sys2Proof/Machine/HostInterface.lean ====
section
/-! DEFINITION. The device actions (60_exceptions.md R340–R345, R351) and the host actions (R380–R387). -/

namespace Sys2Proof.Machine

/-- The device entry points (60_exceptions.md R341–R345); a failing sink is logged and changes nothing else (R351). -/
def deviceAct (act : DeviceAction) (s : State) : State :=
  match act with
  | .setCA1 level => { s with pia := s.pia.setLine .a .c1 level }
  | .setCA2 level => { s with pia := s.pia.setLine .a .c2 level }
  | .setCB1 level => { s with pia := s.pia.setLine .b .c1 level }
  | .setCB2 level => { s with pia := s.pia.setLine .b .c2 level }
  | .setPB7Override active => { s with pia := s.pia.setPB7Override active }
  | .portAInput v => { s with pia := s.pia.portAInput v }
  | .sinkFailed port => s.emit (.log (.sinkFailed port))

/-- `StepOne()` (60_exceptions.md R382): one CPU step with the hook out of the way, whatever the Clock says. -/
def stepOne (s : State) : Result :=
  if s.faulted then .next s
  else
    match cpuStep ({ s.pause with hook := .absent } : State).wireInputs with
    | .next r =>
      let t := ({ r.2 with hook := s.hook } : State).flush
      .next (if t.hook.allows t.pc then t else t.emit (.hookHalted t.pc))
    | .fault _ => .next s.machineFault
    | .refused r => .refused r

/-- `SaveState()` (60_exceptions.md R385). -/
def State.snapshot (s : State) : Snapshot where
  version := .current
  a := s.a
  x := s.x
  y := s.y
  sp := s.sp
  pc := s.pc
  flags := s.flags
  cycles := s.cycles
  ram := s.mem.ramPart
  portA := s.pia.portA
  portB := s.pia.portB
  pb7Override := s.pia.pb7Override

/-- Whether a snapshot's version is supported: this implementation's own is, another one may be (log 10). -/
def SnapshotVersion.supported (v : SnapshotVersion) : Bool :=
  match v with
  | .current => true
  | .other tag => Config.supportsVersion tag

/-- A snapshot is not malformed: its RAM contents are two RAM banks and nothing else (60_exceptions.md R385, R386). -/
def Snapshot.wellFormed (snap : Snapshot) : Bool := snap.ram.wf && snap.ram.all (fun c => isRam c.1)

/-- The run-to-cursor target is cleared (60_exceptions.md R386): the hook reverts to `BreakpointHook(set)` or `NoHook`. -/
def Hook.clearTarget (h : Hook) : Hook :=
  match h with
  | .absent => .absent
  | .breakpoint set => .breakpoint set
  | .runTo _ [] => .absent
  | .runTo _ (a :: set) => .breakpoint (a :: set)

/-- The state a snapshot replaces (60_exceptions.md R386): every field it lists, no NMI pending, and an unspecified `opcode` (log 9).
ROM is not replaced. -/
def State.replaceBy (s : State) (snap : Snapshot) : State :=
  { s with
    a := snap.a, x := snap.x, y := snap.y, sp := snap.sp, pc := snap.pc, flags := snap.flags, cycles := snap.cycles,
    opcode := Config.freeByte s.freeCount, freeCount := s.freeCount + 1,
    inputs := { s.inputs with nmiPending := false },
    hook := s.hook.clearTarget,
    pia := ⟨snap.portA, snap.portB, snap.pb7Override, s.pia.notifyPending⟩,
    mem := snap.ram ++ s.mem.romPart }

/-- `LoadState(snap)` (60_exceptions.md R386), at wall-clock time `now`. -/
def loadState (snap : Snapshot) (now : Rat) (s : State) : State :=
  if snap.version.supported && snap.wellFormed then
    let t := (s.replaceBy snap).resetTiming now
    ({ t with pia := { t.pia with notifyPending := true } } : State).flush
  else s

/-- One byte of `HostRead` (60_exceptions.md R387): `BusRead` inside 0..0xFFFF, else 0; without the read's side effects unless
`HOST_READ_SIDE_EFFECTS`. -/
def State.hostReadByte (s : State) (addr : Int) : Byte × State :=
  if 0 ≤ addr && addr ≤ 0xFFFF then
    let r := s.memRead (BitVec.ofNat 16 addr.toNat)
    (r.1, if s.wiring.hostReadSideEffects then r.2 else s)
  else (0x00, s)

/-- The loop of `HostRead(start, len)` (60_exceptions.md R387). -/
def State.hostReadBytes (s : State) (start : Int) : Nat → List Byte × State
  | 0 => ([], s)
  | n + 1 =>
    let b := s.hostReadByte start
    let rest := b.2.hostReadBytes (start + 1) n
    (b.1 :: rest.1, rest.2)

/-- `HostRead(start, len)` (60_exceptions.md R387), its answer an event (log 14). -/
def hostRead (start : Int) (len : Nat) (s : State) : State :=
  let r := s.hostReadBytes start len
  r.2.emit (.readReply start r.1)

/-- `HostWrite(addr, val)` (60_exceptions.md R387). -/
def hostWrite (addr val : Int) (s : State) : State :=
  if 0 ≤ addr && addr ≤ 0xFFFF && 0 ≤ val && val ≤ 0xFF then
    s.memWrite (BitVec.ofNat 16 addr.toNat) (BitVec.ofNat 8 val.toNat)
  else s.emit (.log (.writeRejected addr val))

/-- The `Status` event that reports `paused` (60_exceptions.md R381, R388). -/
def State.emitStatus (s : State) : State := s.emit (.status s.clock.paused s.pc s.cycles)

/-- The host actions (60_exceptions.md R380). -/
def hostAct (act : HostAction) (s : State) : Result :=
  match act with
  | .pause => .next s.pause.emitStatus
  | .resume now => .next (s.resume now).emitStatus
  | .stepOne => stepOne s
  | .reset => .next s.machineReset
  | .setHook h => .next { s with hook := h }
  | .setCycleAccurate flag => .next (s.setCycleAccurate flag)
  | .saveState => .next (s.emit (.saved s.snapshot))
  | .loadState snap now => .next (loadState snap now s)
  | .hostRead start len => .next (hostRead start len s)
  | .hostWrite addr val => .next (hostWrite addr val s)

/-- The flush that ends a command or a device action (60_exceptions.md R354, R380). -/
def endTurn (r : Result) : Result :=
  match r with
  | .next t => .next t.flush
  | .fault e => .fault e
  | .refused e => .refused e

/-- One entry of the agenda. Interrupt-line turns act on a CPU standing alone only: the Machine's own lines are driven by its wiring
(60_exceptions.md R302; log 5). A measurement adds to `drift` (R362; log 12). -/
def takeTurn (t : Turn) (s : State) : Result :=
  match t with
  | .quantum n => startQuantum n s
  | .device act => endTurn (.next (deviceAct act s))
  | .host act => endTurn (hostAct act s)
  | .setIrqLine level => .next (if s.wiring.cpuAlone then s.setIrqLine level else s)
  | .setNmiLine level => .next (if s.wiring.cpuAlone then s.setNmiLine level else s)
  | .measure difference => .next { s with clock := { s.clock with drift := s.clock.drift + difference } }

/-- Who acts next (00_scope.md R11; log 6): the quantum in progress, else the first entry of the agenda, else the Scheduler with a
new quantum. -/
def advance (s : State) : Result :=
  if s.quantumLeft = 0 then
    match s.agenda with
    | [] => startQuantum 1 s
    | t :: rest => takeTurn t { s with agenda := rest }
  else continueQuantum s

end Sys2Proof.Machine
end

