-- ==== Sys2Proof/Machine/Step.lean ====
section
/-! DEFINITION. One step of the machine, and the state that runs a given instruction next. -/

namespace Sys2Proof.Machine

/-- One atomic action of one agent (00_scope.md R10): a CPU step of a quantum, a device action or a host action. -/
def step (s : State) : Host.Outcome State Fault Refusal := advance s

/-- Where `withFetchWord` puts an instruction: at `PC` if its three bytes lie in RAM or ROM, else at 0x0200. -/
def State.placeOf (s : State) : Addr :=
  if isStored s.pc.toNat && isStored (s.pc + 1).toNat && isStored (s.pc + 2).toNat then s.pc else 0x0200

/-- `s` with the instruction whose bits are `w` (byte 0 in bits 7..0, bits from `nbits` up zero) stored where the next step fetches
it, and with all that this takes: a running Clock, no fault, hook, agenda or quantum in the way, and no interrupt to be taken
first (log 7). -/
def State.withFetchWord (s : State) (nbits w : Nat) : State :=
  let v := w % 2 ^ nbits
  let p := s.placeOf
  let mem := ((s.mem.write p.toNat (BitVec.ofNat 8 v)).write (p + 1).toNat (BitVec.ofNat 8 (v / 256))).write
    (p + 2).toNat (BitVec.ofNat 8 (v / 65536))
  { s with
    pc := p, mem := mem, hook := .absent, faulted := false, agenda := [], quantumLeft := 0,
    clock := { s.clock with paused := false },
    inputs := { s.inputs with irqLine := false, nmiPending := false },
    wiring := { s.wiring with piaIrqWired := s.wiring.piaIrqWired && !(s.pia.portA.irq || s.pia.portB.irq) } }

end Sys2Proof.Machine
end

