-- ==== Sys2Proof/Safety.lean ====
section
/-! DEFINITION. What counts as a safe state, and the words the statements use: the invariant every step keeps, which bytes an instruction
stores to, and which instructions write a register or a flag (10_state.md R21–R27). -/

namespace Sys2Proof.Machine

/-- The invariant of the machine. -/
structure Inv (s : State) : Prop where
  /-- The memory is in canonical form: equal memories are equal data. -/
  mem_wf : s.mem.wf = true
  /-- Every turn ends with a flush (60_exceptions.md R354), so nothing is pending between quanta. -/
  flushed : s.quantumLeft = 0 → s.pia.notifyPending = false
  /-- The Machine ties NMI inactive (60_exceptions.md R302). -/
  nmi_tied : s.wiring.cpuAlone = false → s.inputs.nmiLine = false ∧ s.inputs.nmiPending = false
  /-- Without `PIA_IRQ_WIRED` no IRQ is ever requested in the Machine (60_exceptions.md R302). -/
  irq_unwired : s.wiring.cpuAlone = false → s.wiring.piaIrqWired = false → s.inputs.irqLine = false
  /-- `CHUNK` is positive (00_scope.md R8). -/
  chunk_pos : 0 < s.clock.chunk
  /-- A quantum is at most `CHUNK` steps (60_exceptions.md R361). -/
  quantum_bounded : s.quantumLeft ≤ s.clock.chunk

/-- `q` is `s` inside the quantum whose next CPU step a running machine makes (60_exceptions.md R361): the quantum in progress, the one the
Scheduler starts when nothing is on the agenda, or the one that is the next turn of the agenda (logs 6, 8). -/
def State.inQuantum (s q : State) : Prop :=
  (s.quantumLeft ≠ 0 ∧ q = s) ∨
  (s.quantumLeft = 0 ∧ s.agenda = [] ∧ q = { s with quantumLeft := quantumLength 1 s.clock }) ∨
  (s.quantumLeft = 0 ∧ ∃ (n : Nat) (rest : List Turn),
    s.agenda = .quantum n :: rest ∧ q = { s with agenda := rest, quantumLeft := quantumLength n s.clock })

/-- An address of the PIA (20_memory.md R70). -/
def isPia (a : Nat) : Bool := 0xD010 ≤ a && a ≤ 0xD013

/-- Whether the instruction writes its result to memory at its effective address: the stores, and the memory forms of the
read-modify-write instructions (20_memory.md R84). -/
def storesAtEa (i : Instr) : Bool :=
  i.mode != .acc && [Mnemonic.sta, .stx, .sty, .sax, .asl, .lsr, .rol, .ror, .inc, .dec, .slo, .rla, .sre, .rra, .dcp,
    .isc].contains i.mnemonic

/-- The addresses an instruction stores to: its effective address, or the stack locations it pushes to (42_stack.md R170,
R176). -/
def storedAddresses (i : Instr) (s : State) : List Addr :=
  if storesAtEa i then [(effectiveAddress i s).addr]
  else if i.mnemonic = .pha ∨ i.mnemonic = .php then [stackAddr s.sp]
  else if i.mnemonic = .jsr then [stackAddr s.sp, stackAddr (s.sp - 1)]
  else if i.mnemonic = .brk then [stackAddr s.sp, stackAddr (s.sp - 1), stackAddr (s.sp - 1 - 1)]
  else []

/-- The instructions that write `A` (10_state.md R21), besides the accumulator forms of the shifts. -/
def writersOfA : List Mnemonic :=
  [.lda, .txa, .tya, .pla, .adc, .sbc, .and, .ora, .eor, .slo, .rla, .sre, .rra, .isc, .lax, .anc, .alr, .arr, .usbc, .las]

/-- The instructions that write `X` (10_state.md R22). -/
def writersOfX : List Mnemonic := [.ldx, .tax, .tsx, .inx, .dex, .lax, .sbx, .las]

/-- The instructions that write `Y` (10_state.md R23). -/
def writersOfY : List Mnemonic := [.ldy, .tay, .iny, .dey]

/-- The instructions that write `S` (10_state.md R24). -/
def writersOfS : List Mnemonic := [.txs, .pha, .php, .pla, .plp, .jsr, .rts, .rti, .brk, .las]

/-- The instructions that write `N` and `Z` (10_state.md R27). -/
def writersOfNZ : List Mnemonic :=
  [.lda, .ldx, .ldy, .tax, .tay, .txa, .tya, .tsx, .pla, .and, .ora, .eor, .adc, .sbc, .cmp, .cpx, .cpy, .inc, .dec, .inx, .iny,
    .dex, .dey, .asl, .lsr, .rol, .ror, .bit, .slo, .rla, .sre, .rra, .dcp, .isc, .lax, .anc, .alr, .arr, .sbx, .usbc, .las,
    .plp, .rti]

/-- The instructions that write `C` (10_state.md R27). -/
def writersOfC : List Mnemonic :=
  [.adc, .sbc, .cmp, .cpx, .cpy, .asl, .lsr, .rol, .ror, .slo, .rla, .sre, .rra, .dcp, .isc, .anc, .alr, .arr, .sbx, .usbc,
    .clc, .sec, .plp, .rti]

/-- The instructions that write `V` (10_state.md R27). -/
def writersOfV : List Mnemonic := [.adc, .sbc, .bit, .rra, .isc, .arr, .usbc, .clv, .plp, .rti]

/-- The instructions that write `D` (10_state.md R27). -/
def writersOfD : List Mnemonic := [.sed, .cld, .plp, .rti]

/-- The instructions that write `I` (10_state.md R27). -/
def writersOfI : List Mnemonic := [.sei, .cli, .plp, .rti, .brk]

end Sys2Proof.Machine
end

