-- ==== Sys2Proof/Certificates/Slice0/Obligations.lean ====
section
/-! DEFINITION. The statements. Each says in Lean what its entry in OBLIGATIONS.json says in words. An instruction's meaning runs after
its bytes were fetched, with `PC` past it (00_scope.md R17; log 18); `operandRead`, `effectiveAddress` and `costOf` read the instruction's
mode, cost and penalty from its row of 30_encoding.md R106, and `encodingsOf` lists its rows in the order of their opcode bytes. -/

section

open Sys2Proof Sys2Proof.Machine

/-- Decoding and encoding agree, both ways, for every instruction and operand (R100, R101, R103). -/
def Obligations.DecodeEncodeAgree : Prop :=
  (∀ (i : Instr) (rest : List Byte), i.wellFormed = true → decode (encode i ++ rest) = .ok (i, rest)) ∧
  (∀ (bytes : List Byte) (i : Instr) (rest : List Byte), decode bytes = .ok (i, rest) → bytes = encode i ++ rest)

/-- The opcode byte alone selects operation, mode, length and base cost, and decoding never fails (R100). -/
def Obligations.DecodingIsTotal : Prop :=
  ∀ (op d1 d2 : Byte) (rest : List Byte), ∃ i : Instr,
    decode (op :: d1 :: d2 :: rest) = .ok (i, (op :: d1 :: d2 :: rest).drop (rowOf op).mode.length) ∧
    i.opcode = op ∧ i.row = rowOf op ∧ encode i = [op, d1, d2].take (rowOf op).mode.length ∧
    1 ≤ (rowOf op).mode.length ∧ (rowOf op).mode.length ≤ 3

/-- A few instruction words written out from the spec decode to the instructions they stand for (R101, R103, R107,
R260). -/
def Obligations.SampleWordsDecode : Prop :=
  decode [0xA9, 0x80] = .ok (.ldaImm 0x80, []) ∧
  decode [0x8D, 0x12, 0xD0] = .ok (.staAbs 0xD012, []) ∧
  decode [0xB6, 0xFF] = .ok (.ldxZpy 0xFF, []) ∧
  decode [0x6C, 0xFF, 0x10] = .ok (.jmpInd 0x10FF, []) ∧
  decode [0x20, 0x34, 0x12] = .ok (.jsr 0x1234, []) ∧
  decode [0xD0, 0xFE] = .ok (.bne 0xFE, []) ∧
  decode [0x00] = .ok (.brk, []) ∧
  decode [0x0A] = .ok (.aslAcc, []) ∧
  decode [0x08] = .ok (.php, []) ∧
  decode [0xF8] = .ok (.sed, []) ∧
  decode [0x07, 0x10] = .ok (.sloZp 0x10, []) ∧
  decode [0x6B, 0xFF] = .ok (.arr 0xFF, []) ∧
  decode [0xBB, 0x00, 0x03] = .ok (.las 0x0300, []) ∧
  decode [0xEA] = .ok (.nop, []) ∧
  decode [0x1C, 0xFF, 0x02] = .ok (.nop1C 0x02FF, [])

/-- Every instruction adds its base cost, the page-cross penalty and the branch cost to the cycle counter (R108). -/
def Obligations.CycleCost : Prop :=
  ∀ (i : Instr) (s t : State), exec i s = .next t →
    t.cycles = s.cycles + i.row.cycles +
      (if i.mode = .rel then
        if branchTaken i.mnemonic s.flags then (if (effectiveAddress i s).crossed then 2 else 1) else 0
      else if i.row.penalty = true ∧ (i.mode = .abx ∨ i.mode = .aby ∨ i.mode = .izy) ∧
          (effectiveAddress i s).crossed = true then 1
      else 0)

/-- A CPU step costs 2 to 8 cycles, an interrupt entry 7, a halted step 0 (R420, R421, R301). -/
def Obligations.CostBounds : Prop :=
  ∀ (s t : State) (r : CpuResult), cpuStep s = .next (r, t) →
    (r = .halted → t.cycles = s.cycles) ∧
    (r = .nmi ∨ r = .irq → t.cycles = s.cycles + 7) ∧
    (r = .ok → s.cycles + 2 ≤ t.cycles ∧ t.cycles ≤ s.cycles + 8)

/-- LDA, LDX, LDY, LAX and LAS load the operand byte, set N and Z, and change nothing else (R150, R151, R152, R266,
R274). -/
def Obligations.LoadResults : Prop :=
  encodingsOf .lda = [⟨0xA1, .izx, 2, 6, false⟩, ⟨0xA5, .zp, 2, 3, false⟩, ⟨0xA9, .imm, 2, 2, false⟩,
    ⟨0xAD, .abs, 3, 4, false⟩, ⟨0xB1, .izy, 2, 5, true⟩, ⟨0xB5, .zpx, 2, 4, false⟩, ⟨0xB9, .aby, 3, 4, true⟩,
    ⟨0xBD, .abx, 3, 4, true⟩] ∧
  encodingsOf .ldx = [⟨0xA2, .imm, 2, 2, false⟩, ⟨0xA6, .zp, 2, 3, false⟩, ⟨0xAE, .abs, 3, 4, false⟩,
    ⟨0xB6, .zpy, 2, 4, false⟩, ⟨0xBE, .aby, 3, 4, true⟩] ∧
  encodingsOf .ldy = [⟨0xA0, .imm, 2, 2, false⟩, ⟨0xA4, .zp, 2, 3, false⟩, ⟨0xAC, .abs, 3, 4, false⟩,
    ⟨0xB4, .zpx, 2, 4, false⟩, ⟨0xBC, .abx, 3, 4, true⟩] ∧
  encodingsOf .lax = [⟨0xA3, .izx, 2, 6, false⟩, ⟨0xA7, .zp, 2, 3, false⟩, ⟨0xAF, .abs, 3, 4, false⟩,
    ⟨0xB3, .izy, 2, 5, true⟩, ⟨0xB7, .zpy, 2, 4, false⟩, ⟨0xBF, .aby, 3, 4, true⟩] ∧
  encodingsOf .las = [⟨0xBB, .aby, 3, 4, true⟩] ∧
  ∀ (i : Instr) (s : State),
    (i.mnemonic = .lda → exec i s = .next { s with
      a := (operandRead i s).1, flags := s.flags.setNZ (operandRead i s).1,
      cycles := s.cycles + costOf i s, pia := (operandRead i s).2.pia }) ∧
    (i.mnemonic = .ldx → exec i s = .next { s with
      x := (operandRead i s).1, flags := s.flags.setNZ (operandRead i s).1,
      cycles := s.cycles + costOf i s, pia := (operandRead i s).2.pia }) ∧
    (i.mnemonic = .ldy → exec i s = .next { s with
      y := (operandRead i s).1, flags := s.flags.setNZ (operandRead i s).1,
      cycles := s.cycles + costOf i s, pia := (operandRead i s).2.pia }) ∧
    (i.mnemonic = .lax → exec i s = .next { s with
      a := (operandRead i s).1, x := (operandRead i s).1, flags := s.flags.setNZ (operandRead i s).1,
      cycles := s.cycles + costOf i s, pia := (operandRead i s).2.pia }) ∧
    (i.mnemonic = .las → exec i s = .next { s with
      a := (operandRead i s).1 &&& s.sp, x := (operandRead i s).1 &&& s.sp, sp := (operandRead i s).1 &&& s.sp,
      flags := s.flags.setNZ ((operandRead i s).1 &&& s.sp),
      cycles := s.cycles + costOf i s, pia := (operandRead i s).2.pia })

/-- STA, STX, STY and SAX write their byte at the effective address, read nothing there and set no flag (R153, R154,
R155, R265). -/
def Obligations.StoreResults : Prop :=
  encodingsOf .sta = [⟨0x81, .izx, 2, 6, false⟩, ⟨0x85, .zp, 2, 3, false⟩, ⟨0x8D, .abs, 3, 4, false⟩,
    ⟨0x91, .izy, 2, 6, false⟩, ⟨0x95, .zpx, 2, 4, false⟩, ⟨0x99, .aby, 3, 5, false⟩, ⟨0x9D, .abx, 3, 5, false⟩] ∧
  encodingsOf .stx = [⟨0x86, .zp, 2, 3, false⟩, ⟨0x8E, .abs, 3, 4, false⟩, ⟨0x96, .zpy, 2, 4, false⟩] ∧
  encodingsOf .sty = [⟨0x84, .zp, 2, 3, false⟩, ⟨0x8C, .abs, 3, 4, false⟩, ⟨0x94, .zpx, 2, 4, false⟩] ∧
  encodingsOf .sax = [⟨0x83, .izx, 2, 6, false⟩, ⟨0x87, .zp, 2, 3, false⟩, ⟨0x8F, .abs, 3, 4, false⟩,
    ⟨0x97, .zpy, 2, 4, false⟩] ∧
  ∀ (i : Instr) (s : State) (v : Byte),
    (i.mnemonic = .sta ∧ v = s.a ∨ i.mnemonic = .stx ∧ v = s.x ∨ i.mnemonic = .sty ∧ v = s.y ∨
      i.mnemonic = .sax ∧ v = s.a &&& s.x) →
    exec i s = .next { s with
      mem := (s.memWrite (effectiveAddress i s).addr v).mem, pia := (s.memWrite (effectiveAddress i s).addr v).pia,
      output := (s.memWrite (effectiveAddress i s).addr v).output, cycles := s.cycles + costOf i s } ∧
    (∀ b : Nat, b ≠ (effectiveAddress i s).addr.toNat →
      (s.memWrite (effectiveAddress i s).addr v).mem.read b = s.mem.read b) ∧
    (isRam (effectiveAddress i s).addr.toNat = true →
      (s.memWrite (effectiveAddress i s).addr v).mem.read (effectiveAddress i s).addr.toNat = v)

/-- The six register transfers; all but TXS set N and Z (R156, R157, R158, R159, R160, R161). -/
def Obligations.TransferResults : Prop :=
  encodingsOf .tax = [⟨0xAA, .imp, 1, 2, false⟩] ∧
  encodingsOf .tay = [⟨0xA8, .imp, 1, 2, false⟩] ∧
  encodingsOf .tsx = [⟨0xBA, .imp, 1, 2, false⟩] ∧
  encodingsOf .txa = [⟨0x8A, .imp, 1, 2, false⟩] ∧
  encodingsOf .txs = [⟨0x9A, .imp, 1, 2, false⟩] ∧
  encodingsOf .tya = [⟨0x98, .imp, 1, 2, false⟩] ∧
  (∀ s : State, exec .tax s = .next { s with
    x := s.a, flags := s.flags.setNZ s.a, cycles := s.cycles + 2 }) ∧
  (∀ s : State, exec .tay s = .next { s with
    y := s.a, flags := s.flags.setNZ s.a, cycles := s.cycles + 2 }) ∧
  (∀ s : State, exec .tsx s = .next { s with
    x := s.sp, flags := s.flags.setNZ s.sp, cycles := s.cycles + 2 }) ∧
  (∀ s : State, exec .txa s = .next { s with
    a := s.x, flags := s.flags.setNZ s.x, cycles := s.cycles + 2 }) ∧
  (∀ s : State, exec .txs s = .next { s with
    sp := s.x, cycles := s.cycles + 2 }) ∧
  (∀ s : State, exec .tya s = .next { s with
    a := s.y, flags := s.flags.setNZ s.y, cycles := s.cycles + 2 })

/-- PHA pushes A, PHP pushes the status byte with bits 5 and 4 set (R172, R173). -/
def Obligations.PushResults : Prop :=
  encodingsOf .pha = [⟨0x48, .imp, 1, 3, false⟩] ∧
  encodingsOf .php = [⟨0x08, .imp, 1, 3, false⟩] ∧
  (∀ s : State, exec .pha s = .next { s with
    mem := s.mem.write (256 + s.sp.toNat) s.a, sp := s.sp - 1, cycles := s.cycles + 3 }) ∧
  (∀ s : State, exec .php s = .next { s with
    mem := s.mem.write (256 + s.sp.toNat) (statusByte true s.flags), sp := s.sp - 1, cycles := s.cycles + 3 }) ∧
  (∀ f : Flags, (statusByte true f).getLsbD 5 = true ∧ (statusByte true f).getLsbD 4 = true)

/-- PLA pulls A and sets N and Z; PLP pulls all six flags and ignores bits 5 and 4 (R174, R175). -/
def Obligations.PullResults : Prop :=
  encodingsOf .pla = [⟨0x68, .imp, 1, 4, false⟩] ∧
  encodingsOf .plp = [⟨0x28, .imp, 1, 4, false⟩] ∧
  (∀ s : State, exec .pla s = .next { s with
    a := s.mem.read (256 + (s.sp + 1).toNat), flags := s.flags.setNZ (s.mem.read (256 + (s.sp + 1).toNat)),
    sp := s.sp + 1, cycles := s.cycles + 4 }) ∧
  (∀ s : State, exec .plp s = .next { s with
    flags :=
      { n := (s.mem.read (256 + (s.sp + 1).toNat)).getLsbD 7, v := (s.mem.read (256 + (s.sp + 1).toNat)).getLsbD 6,
        d := (s.mem.read (256 + (s.sp + 1).toNat)).getLsbD 3, i := (s.mem.read (256 + (s.sp + 1).toNat)).getLsbD 2,
        z := (s.mem.read (256 + (s.sp + 1).toNat)).getLsbD 1, c := (s.mem.read (256 + (s.sp + 1).toNat)).getLsbD 0 },
    sp := s.sp + 1, cycles := s.cycles + 4 })

/-- ADC, SBC and USBC add or subtract the operand byte in the mode D selects (R183, R185, R273). -/
def Obligations.AdcSbcResults : Prop :=
  encodingsOf .adc = [⟨0x61, .izx, 2, 6, false⟩, ⟨0x65, .zp, 2, 3, false⟩, ⟨0x69, .imm, 2, 2, false⟩,
    ⟨0x6D, .abs, 3, 4, false⟩, ⟨0x71, .izy, 2, 5, true⟩, ⟨0x75, .zpx, 2, 4, false⟩, ⟨0x79, .aby, 3, 4, true⟩,
    ⟨0x7D, .abx, 3, 4, true⟩] ∧
  encodingsOf .sbc = [⟨0xE1, .izx, 2, 6, false⟩, ⟨0xE5, .zp, 2, 3, false⟩, ⟨0xE9, .imm, 2, 2, false⟩,
    ⟨0xED, .abs, 3, 4, false⟩, ⟨0xF1, .izy, 2, 5, true⟩, ⟨0xF5, .zpx, 2, 4, false⟩, ⟨0xF9, .aby, 3, 4, true⟩,
    ⟨0xFD, .abx, 3, 4, true⟩] ∧
  encodingsOf .usbc = [⟨0xEB, .imm, 2, 2, false⟩] ∧
  ∀ (i : Instr) (s : State), let m := (operandRead i s).1
    (i.mnemonic = .adc → exec i s = .next { s with
      a := (if s.flags.d then adcDecimal s.a m s.flags else adcBinary s.a m s.flags).1,
      flags := (if s.flags.d then adcDecimal s.a m s.flags else adcBinary s.a m s.flags).2,
      cycles := s.cycles + costOf i s, pia := (operandRead i s).2.pia }) ∧
    (i.mnemonic = .sbc → exec i s = .next { s with
      a := (if s.flags.d then sbcDecimal s.a m s.flags else sbcBinary s.a m s.flags).1,
      flags := (if s.flags.d then sbcDecimal s.a m s.flags else sbcBinary s.a m s.flags).2,
      cycles := s.cycles + costOf i s, pia := (operandRead i s).2.pia }) ∧
    (i.mnemonic = .usbc → exec i s = .next { s with
      a := (if s.flags.d then sbcDecimal s.a m s.flags else sbcBinary s.a m s.flags).1,
      flags := (if s.flags.d then sbcDecimal s.a m s.flags else sbcBinary s.a m s.flags).2,
      cycles := s.cycles + costOf i s, pia := (operandRead i s).2.pia })

/-- Binary addition: sum modulo 256, unsigned carry, signed overflow, N and Z of the result (R180). -/
def Obligations.AdcBinaryLaw : Prop :=
  ∀ (a m : Byte) (f : Flags), let r := adcBinary a m f; let sum := a.toNat + m.toNat + f.c.toNat
    r.1.toNat = sum % 256 ∧ r.2.c = decide (255 < sum) ∧ r.2.n = r.1.getLsbD 7 ∧ r.2.z = decide (r.1 = 0) ∧
    r.2.d = f.d ∧ r.2.i = f.i ∧
    (r.2.v = true ↔ (~~~(a ^^^ m)) &&& (a ^^^ r.1) &&& 0x80 ≠ 0) ∧
    (r.2.v = true ↔ a.toInt + m.toInt + f.c.toNat < -128 ∨ 127 < a.toInt + m.toInt + f.c.toNat)

/-- Decimal addition: flags N, V, Z of the binary sum, decimal result and carry (R181). -/
def Obligations.AdcDecimalLaw : Prop :=
  ∀ (a m : Byte) (f : Flags), let r := adcDecimal a m f; let b := adcBinary a m f
    let al0 := a.toNat % 16 + m.toNat % 16 + f.c.toNat
    let al := if 9 < al0 then al0 + 6 else al0
    let ah0 := a.toNat / 16 + m.toNat / 16 + (if 15 < al then 1 else 0)
    let ah := if 9 < ah0 then ah0 + 6 else ah0
    let sum := (10 * (a.toNat / 16) + a.toNat % 16) + (10 * (m.toNat / 16) + m.toNat % 16) + f.c.toNat
    r.1.toNat = (16 * ah + al % 16) % 256 ∧ r.2 = { b.2 with c := decide (15 < ah) } ∧
    (a.toNat % 16 ≤ 9 → a.toNat / 16 ≤ 9 → m.toNat % 16 ≤ 9 → m.toNat / 16 ≤ 9 →
      r.1.toNat % 16 ≤ 9 ∧ r.1.toNat / 16 ≤ 9 ∧ 10 * (r.1.toNat / 16) + r.1.toNat % 16 = sum % 100 ∧
      (r.2.c = true ↔ 100 ≤ sum))

/-- Binary subtraction: difference modulo 256, no-borrow carry, signed overflow (R182). -/
def Obligations.SbcBinaryLaw : Prop :=
  ∀ (a m : Byte) (f : Flags), let r := sbcBinary a m f
    r.1.toNat = (a.toNat + (m ^^^ 0xFF).toNat + f.c.toNat) % 256 ∧
    (r.1.toNat : Int) = ((a.toNat : Int) - m.toNat - (1 - f.c.toNat)) % 256 ∧
    (r.2.c = true ↔ m.toNat + (1 - f.c.toNat) ≤ a.toNat) ∧ r.2.n = r.1.getLsbD 7 ∧ r.2.z = decide (r.1 = 0) ∧
    r.2.d = f.d ∧ r.2.i = f.i ∧
    (r.2.v = true ↔ (a ^^^ m) &&& (a ^^^ r.1) &&& 0x80 ≠ 0) ∧
    (r.2.v = true ↔ a.toInt - m.toInt - (1 - f.c.toNat) < -128 ∨ 127 < a.toInt - m.toInt - (1 - f.c.toNat))

/-- Decimal subtraction: all flags of the binary difference, decimal-adjusted result (R184). -/
def Obligations.SbcDecimalLaw : Prop :=
  ∀ (a m : Byte) (f : Flags), let r := sbcDecimal a m f
    let al0 : Int := (a.toNat % 16 : Nat) - (m.toNat % 16 : Nat) - (1 - f.c.toNat)
    let al := if al0 < 0 then al0 - 6 else al0
    let ah0 : Int := (a.toNat / 16 : Nat) - (m.toNat / 16 : Nat) - (if al < 0 then 1 else 0)
    let ah := if ah0 < 0 then ah0 - 6 else ah0
    let diff : Int := (10 * (a.toNat / 16) + a.toNat % 16 : Nat) - (10 * (m.toNat / 16) + m.toNat % 16 : Nat) -
      (1 - f.c.toNat)
    (r.1.toNat : Int) = 16 * (ah % 16) + al % 16 ∧ r.2 = (sbcBinary a m f).2 ∧
    (a.toNat % 16 ≤ 9 → a.toNat / 16 ≤ 9 → m.toNat % 16 ≤ 9 → m.toNat / 16 ≤ 9 →
      r.1.toNat % 16 ≤ 9 ∧ r.1.toNat / 16 ≤ 9 ∧ (10 * (r.1.toNat / 16) + r.1.toNat % 16 : Nat) = diff % 100 ∧
      (r.2.c = false ↔ diff < 0))

/-- CMP, CPX and CPY set N, Z and C from the unsigned comparison and change no register (R186, R187, R188). -/
def Obligations.CompareResults : Prop :=
  encodingsOf .cmp = [⟨0xC1, .izx, 2, 6, false⟩, ⟨0xC5, .zp, 2, 3, false⟩, ⟨0xC9, .imm, 2, 2, false⟩,
    ⟨0xCD, .abs, 3, 4, false⟩, ⟨0xD1, .izy, 2, 5, true⟩, ⟨0xD5, .zpx, 2, 4, false⟩, ⟨0xD9, .aby, 3, 4, true⟩,
    ⟨0xDD, .abx, 3, 4, true⟩] ∧
  encodingsOf .cpx = [⟨0xE0, .imm, 2, 2, false⟩, ⟨0xE4, .zp, 2, 3, false⟩, ⟨0xEC, .abs, 3, 4, false⟩] ∧
  encodingsOf .cpy = [⟨0xC0, .imm, 2, 2, false⟩, ⟨0xC4, .zp, 2, 3, false⟩, ⟨0xCC, .abs, 3, 4, false⟩] ∧
  ∀ (i : Instr) (s : State), let m := (operandRead i s).1
    (i.mnemonic = .cmp → exec i s = .next { s with
      flags := { s.flags with n := (s.a - m).getLsbD 7, z := decide (s.a = m), c := decide (m.toNat ≤ s.a.toNat) },
      cycles := s.cycles + costOf i s, pia := (operandRead i s).2.pia }) ∧
    (i.mnemonic = .cpx → exec i s = .next { s with
      flags := { s.flags with n := (s.x - m).getLsbD 7, z := decide (s.x = m), c := decide (m.toNat ≤ s.x.toNat) },
      cycles := s.cycles + costOf i s, pia := (operandRead i s).2.pia }) ∧
    (i.mnemonic = .cpy → exec i s = .next { s with
      flags := { s.flags with n := (s.y - m).getLsbD 7, z := decide (s.y = m), c := decide (m.toNat ≤ s.y.toNat) },
      cycles := s.cycles + costOf i s, pia := (operandRead i s).2.pia })

/-- INC and DEC change the byte at the effective address by one, DEX DEY INX INY a register; only N and Z change
(R189, R190, R191, R192, R193, R194). -/
def Obligations.IncDecResults : Prop :=
  encodingsOf .inc = [⟨0xE6, .zp, 2, 5, false⟩, ⟨0xEE, .abs, 3, 6, false⟩, ⟨0xF6, .zpx, 2, 6, false⟩,
    ⟨0xFE, .abx, 3, 7, false⟩] ∧
  encodingsOf .dec = [⟨0xC6, .zp, 2, 5, false⟩, ⟨0xCE, .abs, 3, 6, false⟩, ⟨0xD6, .zpx, 2, 6, false⟩,
    ⟨0xDE, .abx, 3, 7, false⟩] ∧
  encodingsOf .dex = [⟨0xCA, .imp, 1, 2, false⟩] ∧
  encodingsOf .dey = [⟨0x88, .imp, 1, 2, false⟩] ∧
  encodingsOf .inx = [⟨0xE8, .imp, 1, 2, false⟩] ∧
  encodingsOf .iny = [⟨0xC8, .imp, 1, 2, false⟩] ∧
  (∀ (i : Instr) (s : State), let m := (operandRead i s).1
    (i.mnemonic = .inc →
      let t := m + 1
      let w := (operandRead i s).2.memWrite (effectiveAddress i s).addr t
      exec i s = .next { s with
        mem := w.mem, pia := w.pia, output := w.output, flags := s.flags.setNZ t,
        cycles := s.cycles + costOf i s }) ∧
    (i.mnemonic = .dec →
      let t := m - 1
      let w := (operandRead i s).2.memWrite (effectiveAddress i s).addr t
      exec i s = .next { s with
        mem := w.mem, pia := w.pia, output := w.output, flags := s.flags.setNZ t,
        cycles := s.cycles + costOf i s })) ∧
  (∀ s : State, exec .dex s = .next { s with
    x := s.x - 1, flags := s.flags.setNZ (s.x - 1), cycles := s.cycles + 2 }) ∧
  (∀ s : State, exec .dey s = .next { s with
    y := s.y - 1, flags := s.flags.setNZ (s.y - 1), cycles := s.cycles + 2 }) ∧
  (∀ s : State, exec .inx s = .next { s with
    x := s.x + 1, flags := s.flags.setNZ (s.x + 1), cycles := s.cycles + 2 }) ∧
  (∀ s : State, exec .iny s = .next { s with
    y := s.y + 1, flags := s.flags.setNZ (s.y + 1), cycles := s.cycles + 2 })

/-- AND, ORA, EOR combine A with the operand byte; BIT sets N and V from memory and Z from A AND M (R200, R201,
R202, R203). -/
def Obligations.LogicResults : Prop :=
  encodingsOf .and = [⟨0x21, .izx, 2, 6, false⟩, ⟨0x25, .zp, 2, 3, false⟩, ⟨0x29, .imm, 2, 2, false⟩,
    ⟨0x2D, .abs, 3, 4, false⟩, ⟨0x31, .izy, 2, 5, true⟩, ⟨0x35, .zpx, 2, 4, false⟩, ⟨0x39, .aby, 3, 4, true⟩,
    ⟨0x3D, .abx, 3, 4, true⟩] ∧
  encodingsOf .ora = [⟨0x01, .izx, 2, 6, false⟩, ⟨0x05, .zp, 2, 3, false⟩, ⟨0x09, .imm, 2, 2, false⟩,
    ⟨0x0D, .abs, 3, 4, false⟩, ⟨0x11, .izy, 2, 5, true⟩, ⟨0x15, .zpx, 2, 4, false⟩, ⟨0x19, .aby, 3, 4, true⟩,
    ⟨0x1D, .abx, 3, 4, true⟩] ∧
  encodingsOf .eor = [⟨0x41, .izx, 2, 6, false⟩, ⟨0x45, .zp, 2, 3, false⟩, ⟨0x49, .imm, 2, 2, false⟩,
    ⟨0x4D, .abs, 3, 4, false⟩, ⟨0x51, .izy, 2, 5, true⟩, ⟨0x55, .zpx, 2, 4, false⟩, ⟨0x59, .aby, 3, 4, true⟩,
    ⟨0x5D, .abx, 3, 4, true⟩] ∧
  encodingsOf .bit = [⟨0x24, .zp, 2, 3, false⟩, ⟨0x2C, .abs, 3, 4, false⟩] ∧
  ∀ (i : Instr) (s : State), let m := (operandRead i s).1
    (i.mnemonic = .and → exec i s = .next { s with
      a := s.a &&& m, flags := s.flags.setNZ (s.a &&& m),
      cycles := s.cycles + costOf i s, pia := (operandRead i s).2.pia }) ∧
    (i.mnemonic = .ora → exec i s = .next { s with
      a := s.a ||| m, flags := s.flags.setNZ (s.a ||| m),
      cycles := s.cycles + costOf i s, pia := (operandRead i s).2.pia }) ∧
    (i.mnemonic = .eor → exec i s = .next { s with
      a := s.a ^^^ m, flags := s.flags.setNZ (s.a ^^^ m),
      cycles := s.cycles + costOf i s, pia := (operandRead i s).2.pia }) ∧
    (i.mnemonic = .bit → exec i s = .next { s with
      flags := { s.flags with z := decide (s.a &&& m = 0), n := m.getLsbD 7, v := m.getLsbD 6 },
      cycles := s.cycles + costOf i s, pia := (operandRead i s).2.pia })

/-- ASL, LSR, ROL and ROR, on A and on memory: result, carry, N and Z (R204, R205, R206, R207). -/
def Obligations.ShiftResults : Prop :=
  encodingsOf .asl = [⟨0x06, .zp, 2, 5, false⟩, ⟨0x0A, .acc, 1, 2, false⟩, ⟨0x0E, .abs, 3, 6, false⟩,
    ⟨0x16, .zpx, 2, 6, false⟩, ⟨0x1E, .abx, 3, 7, false⟩] ∧
  encodingsOf .lsr = [⟨0x46, .zp, 2, 5, false⟩, ⟨0x4A, .acc, 1, 2, false⟩, ⟨0x4E, .abs, 3, 6, false⟩,
    ⟨0x56, .zpx, 2, 6, false⟩, ⟨0x5E, .abx, 3, 7, false⟩] ∧
  encodingsOf .rol = [⟨0x26, .zp, 2, 5, false⟩, ⟨0x2A, .acc, 1, 2, false⟩, ⟨0x2E, .abs, 3, 6, false⟩,
    ⟨0x36, .zpx, 2, 6, false⟩, ⟨0x3E, .abx, 3, 7, false⟩] ∧
  encodingsOf .ror = [⟨0x66, .zp, 2, 5, false⟩, ⟨0x6A, .acc, 1, 2, false⟩, ⟨0x6E, .abs, 3, 6, false⟩,
    ⟨0x76, .zpx, 2, 6, false⟩, ⟨0x7E, .abx, 3, 7, false⟩] ∧
  ∀ (i : Instr) (s : State), let v := (operandRead i s).1
    (i.mnemonic = .asl →
      let t : Byte := v <<< 1
      let w := (operandRead i s).2.memWrite (effectiveAddress i s).addr t
      exec i s = .next (if i.mode = .acc then { s with
          a := t, flags := ({ s.flags with c := v.getLsbD 7 } : Flags).setNZ t, cycles := s.cycles + costOf i s }
        else { s with
          mem := w.mem, pia := w.pia, output := w.output, flags := ({ s.flags with c := v.getLsbD 7 } : Flags).setNZ t,
          cycles := s.cycles + costOf i s })) ∧
    (i.mnemonic = .lsr →
      let t : Byte := v >>> 1
      let w := (operandRead i s).2.memWrite (effectiveAddress i s).addr t
      exec i s = .next (if i.mode = .acc then { s with
          a := t, flags := ({ s.flags with c := v.getLsbD 0 } : Flags).setNZ t, cycles := s.cycles + costOf i s }
        else { s with
          mem := w.mem, pia := w.pia, output := w.output, flags := ({ s.flags with c := v.getLsbD 0 } : Flags).setNZ t,
          cycles := s.cycles + costOf i s })) ∧
    (i.mnemonic = .rol →
      let t : Byte := (v <<< 1) ||| (if s.flags.c then 0x01 else 0x00)
      let w := (operandRead i s).2.memWrite (effectiveAddress i s).addr t
      exec i s = .next (if i.mode = .acc then { s with
          a := t, flags := ({ s.flags with c := v.getLsbD 7 } : Flags).setNZ t, cycles := s.cycles + costOf i s }
        else { s with
          mem := w.mem, pia := w.pia, output := w.output, flags := ({ s.flags with c := v.getLsbD 7 } : Flags).setNZ t,
          cycles := s.cycles + costOf i s })) ∧
    (i.mnemonic = .ror →
      let t : Byte := (v >>> 1) ||| (if s.flags.c then 0x80 else 0x00)
      let w := (operandRead i s).2.memWrite (effectiveAddress i s).addr t
      exec i s = .next (if i.mode = .acc then { s with
          a := t, flags := ({ s.flags with c := v.getLsbD 0 } : Flags).setNZ t, cycles := s.cycles + costOf i s }
        else { s with
          mem := w.mem, pia := w.pia, output := w.output, flags := ({ s.flags with c := v.getLsbD 0 } : Flags).setNZ t,
          cycles := s.cycles + costOf i s }))

/-- SLO, RLA, SRE, RRA, DCP and ISC: one read, one write of the changed byte, then the accumulator operation on it
(R261, R262, R263, R264, R267, R268). -/
def Obligations.CombinedResults : Prop :=
  encodingsOf .slo = [⟨0x03, .izx, 2, 8, false⟩, ⟨0x07, .zp, 2, 5, false⟩, ⟨0x0F, .abs, 3, 6, false⟩,
    ⟨0x13, .izy, 2, 8, false⟩, ⟨0x17, .zpx, 2, 6, false⟩, ⟨0x1B, .aby, 3, 7, false⟩, ⟨0x1F, .abx, 3, 7, false⟩] ∧
  encodingsOf .rla = [⟨0x23, .izx, 2, 8, false⟩, ⟨0x27, .zp, 2, 5, false⟩, ⟨0x2F, .abs, 3, 6, false⟩,
    ⟨0x33, .izy, 2, 8, false⟩, ⟨0x37, .zpx, 2, 6, false⟩, ⟨0x3B, .aby, 3, 7, false⟩, ⟨0x3F, .abx, 3, 7, false⟩] ∧
  encodingsOf .sre = [⟨0x43, .izx, 2, 8, false⟩, ⟨0x47, .zp, 2, 5, false⟩, ⟨0x4F, .abs, 3, 6, false⟩,
    ⟨0x53, .izy, 2, 8, false⟩, ⟨0x57, .zpx, 2, 6, false⟩, ⟨0x5B, .aby, 3, 7, false⟩, ⟨0x5F, .abx, 3, 7, false⟩] ∧
  encodingsOf .rra = [⟨0x63, .izx, 2, 8, false⟩, ⟨0x67, .zp, 2, 5, false⟩, ⟨0x6F, .abs, 3, 6, false⟩,
    ⟨0x73, .izy, 2, 8, false⟩, ⟨0x77, .zpx, 2, 6, false⟩, ⟨0x7B, .aby, 3, 7, false⟩, ⟨0x7F, .abx, 3, 7, false⟩] ∧
  encodingsOf .dcp = [⟨0xC3, .izx, 2, 8, false⟩, ⟨0xC7, .zp, 2, 5, false⟩, ⟨0xCF, .abs, 3, 6, false⟩,
    ⟨0xD3, .izy, 2, 8, false⟩, ⟨0xD7, .zpx, 2, 6, false⟩, ⟨0xDB, .aby, 3, 7, false⟩, ⟨0xDF, .abx, 3, 7, false⟩] ∧
  encodingsOf .isc = [⟨0xE3, .izx, 2, 8, false⟩, ⟨0xE7, .zp, 2, 5, false⟩, ⟨0xEF, .abs, 3, 6, false⟩,
    ⟨0xF3, .izy, 2, 8, false⟩, ⟨0xF7, .zpx, 2, 6, false⟩, ⟨0xFB, .aby, 3, 7, false⟩, ⟨0xFF, .abx, 3, 7, false⟩] ∧
  ∀ (i : Instr) (s : State), let m := (operandRead i s).1
    (i.mnemonic = .slo →
      let t : Byte := m <<< 1
      let w := (operandRead i s).2.memWrite (effectiveAddress i s).addr t
      let r := (s.a ||| t, ({ s.flags with c := m.getLsbD 7 } : Flags).setNZ (s.a ||| t))
      exec i s = .next { s with
        mem := w.mem, pia := w.pia, output := w.output, a := r.1, flags := r.2, cycles := s.cycles + costOf i s }) ∧
    (i.mnemonic = .rla →
      let t : Byte := (m <<< 1) ||| (if s.flags.c then 0x01 else 0x00)
      let w := (operandRead i s).2.memWrite (effectiveAddress i s).addr t
      let r := (s.a &&& t, ({ s.flags with c := m.getLsbD 7 } : Flags).setNZ (s.a &&& t))
      exec i s = .next { s with
        mem := w.mem, pia := w.pia, output := w.output, a := r.1, flags := r.2, cycles := s.cycles + costOf i s }) ∧
    (i.mnemonic = .sre →
      let t : Byte := m >>> 1
      let w := (operandRead i s).2.memWrite (effectiveAddress i s).addr t
      let r := (s.a ^^^ t, ({ s.flags with c := m.getLsbD 0 } : Flags).setNZ (s.a ^^^ t))
      exec i s = .next { s with
        mem := w.mem, pia := w.pia, output := w.output, a := r.1, flags := r.2, cycles := s.cycles + costOf i s }) ∧
    (i.mnemonic = .rra →
      let t : Byte := (m >>> 1) ||| (if s.flags.c then 0x80 else 0x00)
      let w := (operandRead i s).2.memWrite (effectiveAddress i s).addr t
      let f : Flags := { s.flags with c := m.getLsbD 0 }
      let r := if s.flags.d then adcDecimal s.a t f else adcBinary s.a t f
      exec i s = .next { s with
        mem := w.mem, pia := w.pia, output := w.output, a := r.1, flags := r.2, cycles := s.cycles + costOf i s }) ∧
    (i.mnemonic = .dcp →
      let t : Byte := m - 1
      let w := (operandRead i s).2.memWrite (effectiveAddress i s).addr t
      let r := (s.a, ({ s.flags with
        n := (s.a - t).getLsbD 7, z := decide (s.a = t), c := decide (t.toNat ≤ s.a.toNat) } : Flags))
      exec i s = .next { s with
        mem := w.mem, pia := w.pia, output := w.output, a := r.1, flags := r.2, cycles := s.cycles + costOf i s }) ∧
    (i.mnemonic = .isc →
      let t : Byte := m + 1
      let w := (operandRead i s).2.memWrite (effectiveAddress i s).addr t
      let r := if s.flags.d then sbcDecimal s.a t s.flags else sbcBinary s.a t s.flags
      exec i s = .next { s with
        mem := w.mem, pia := w.pia, output := w.output, a := r.1, flags := r.2, cycles := s.cycles + costOf i s })

/-- ANC, ALR, ARR (binary and decimal) and SBX (R269, R270, R271, R272). -/
def Obligations.ImmediateCombinationResults : Prop :=
  encodingsOf .anc = [⟨0x0B, .imm, 2, 2, false⟩, ⟨0x2B, .imm, 2, 2, false⟩] ∧
  encodingsOf .alr = [⟨0x4B, .imm, 2, 2, false⟩] ∧
  encodingsOf .arr = [⟨0x6B, .imm, 2, 2, false⟩] ∧
  encodingsOf .sbx = [⟨0xCB, .imm, 2, 2, false⟩] ∧
  (∀ (i : Instr) (s : State), let m := (operandRead i s).1; let t := s.a &&& m
    i.mnemonic = .anc → exec i s = .next { s with
      a := t, cycles := s.cycles + 2,
      flags := { s.flags with n := t.getLsbD 7, z := decide (t = 0), c := t.getLsbD 7 } }) ∧
  (∀ (m : Byte) (s : State), let t := s.a &&& m
    exec (.alr m) s = .next { s with
      a := t >>> 1, flags := { s.flags with n := false, z := decide (t >>> 1 = 0), c := t.getLsbD 0 },
      cycles := s.cycles + 2 }) ∧
  (∀ (m : Byte) (s : State), let t := s.a &&& m; let r := (t >>> 1) ||| (if s.flags.c then 0x80 else 0x00)
    s.flags.d = false → exec (.arr m) s = .next { s with
      a := r, cycles := s.cycles + 2,
      flags := { s.flags with
        n := r.getLsbD 7, z := decide (r = 0), c := r.getLsbD 6, v := r.getLsbD 6 ^^ r.getLsbD 5 } }) ∧
  (∀ (m : Byte) (s : State), let t := s.a &&& m; let r := (t >>> 1) ||| (if s.flags.c then 0x80 else 0x00)
    let low := if 5 < t.toNat % 16 + t.toNat % 2 then (r &&& 0xF0) ||| ((r + 6) &&& 0x0F) else r
    let high := decide (5 < t.toNat / 16 + t.toNat / 16 % 2)
    s.flags.d = true → exec (.arr m) s = .next { s with
      a := if high then low + 0x60 else low, cycles := s.cycles + 2,
      flags := { s.flags with
        n := s.flags.c, z := decide (r = 0), v := (t ^^^ r).getLsbD 6, c := high } }) ∧
  (∀ (m : Byte) (s : State), let t := s.a &&& s.x
    exec (.sbx m) s = .next { s with
      x := t - m, cycles := s.cycles + 2,
      flags := { s.flags with n := (t - m).getLsbD 7, z := decide (t = m), c := decide (m.toNat ≤ t.toNat) } })

/-- JMP goes to its effective address, JSR pushes the address of its last byte, RTS returns behind it (R220, R221,
R222). -/
def Obligations.JumpResults : Prop :=
  encodingsOf .jmp = [⟨0x4C, .abs, 3, 3, false⟩, ⟨0x6C, .ind, 3, 5, false⟩] ∧
  encodingsOf .jsr = [⟨0x20, .abs, 3, 6, false⟩] ∧
  encodingsOf .rts = [⟨0x60, .imp, 1, 6, false⟩] ∧
  (∀ (i : Instr) (s : State), i.mnemonic = .jmp → exec i s = .next { s with
    pc := (effectiveAddress i s).addr, pia := (effectiveAddress i s).state.pia, cycles := s.cycles + costOf i s }) ∧
  (∀ (a16 : Addr) (s : State), exec (.jsr a16) s = .next { s with
    mem := (s.mem.write (256 + s.sp.toNat) (hi (s.pc - 1))).write (256 + (s.sp - 1).toNat) (lo (s.pc - 1)),
    sp := s.sp - 2, pc := a16, cycles := s.cycles + 6 }) ∧
  (∀ s : State, exec .rts s = .next { s with
    pc := join (s.mem.read (256 + (s.sp + 2).toNat)) (s.mem.read (256 + (s.sp + 1).toNat)) + 1,
    sp := s.sp + 2, cycles := s.cycles + 6 })

/-- BRK pushes PC + 1 and P(1), sets I and goes through 0xFFFE; RTI pulls the flags and PC (R223, R224). -/
def Obligations.BrkRtiResults : Prop :=
  encodingsOf .rti = [⟨0x40, .imp, 1, 6, false⟩] ∧
  encodingsOf .brk = [⟨0x00, .imp, 1, 7, false⟩] ∧
  (∀ s : State, exec .brk s = .next { s with
    mem := ((s.mem.write (256 + s.sp.toNat) (hi (s.pc + 1))).write (256 + (s.sp - 1).toNat) (lo (s.pc + 1))).write
      (256 + (s.sp - 2).toNat) (statusByte true s.flags),
    sp := s.sp - 3, flags := { s.flags with i := true },
    pc := join (s.mem.read 0xFFFF) (s.mem.read 0xFFFE), cycles := s.cycles + 7 }) ∧
  (∀ s : State, exec .rti s = .next { s with
    flags :=
      { n := (s.mem.read (256 + (s.sp + 1).toNat)).getLsbD 7, v := (s.mem.read (256 + (s.sp + 1).toNat)).getLsbD 6,
        d := (s.mem.read (256 + (s.sp + 1).toNat)).getLsbD 3, i := (s.mem.read (256 + (s.sp + 1).toNat)).getLsbD 2,
        z := (s.mem.read (256 + (s.sp + 1).toNat)).getLsbD 1, c := (s.mem.read (256 + (s.sp + 1).toNat)).getLsbD 0 },
    pc := join (s.mem.read (256 + (s.sp + 3).toNat)) (s.mem.read (256 + (s.sp + 2).toNat)),
    sp := s.sp + 3, cycles := s.cycles + 6 })

/-- The eight branches: condition, target, cost; no flag changes (R225, R227, R228, R229, R230, R231, R232, R233,
R234, R235). -/
def Obligations.BranchResults : Prop :=
  encodingsOf .bcc = [⟨0x90, .rel, 2, 2, true⟩] ∧
  encodingsOf .bcs = [⟨0xB0, .rel, 2, 2, true⟩] ∧
  encodingsOf .beq = [⟨0xF0, .rel, 2, 2, true⟩] ∧
  encodingsOf .bmi = [⟨0x30, .rel, 2, 2, true⟩] ∧
  encodingsOf .bne = [⟨0xD0, .rel, 2, 2, true⟩] ∧
  encodingsOf .bpl = [⟨0x10, .rel, 2, 2, true⟩] ∧
  encodingsOf .bvc = [⟨0x50, .rel, 2, 2, true⟩] ∧
  encodingsOf .bvs = [⟨0x70, .rel, 2, 2, true⟩] ∧
  ∀ (d8 : Byte) (s : State),
    let target := BitVec.ofInt 16 (s.pc.toNat + d8.toInt)
    let taken : State := { s with
      pc := target, cycles := s.cycles + (if target.toNat / 256 = s.pc.toNat / 256 then 3 else 4) }
    let notTaken : State := { s with cycles := s.cycles + 2 }
    exec (.bcc d8) s = .next (if !s.flags.c then taken else notTaken) ∧
    exec (.bcs d8) s = .next (if s.flags.c then taken else notTaken) ∧
    exec (.beq d8) s = .next (if s.flags.z then taken else notTaken) ∧
    exec (.bmi d8) s = .next (if s.flags.n then taken else notTaken) ∧
    exec (.bne d8) s = .next (if !s.flags.z then taken else notTaken) ∧
    exec (.bpl d8) s = .next (if !s.flags.n then taken else notTaken) ∧
    exec (.bvc d8) s = .next (if !s.flags.v then taken else notTaken) ∧
    exec (.bvs d8) s = .next (if s.flags.v then taken else notTaken)

/-- The seven flag instructions each set or clear one flag and change nothing else (R240, R241, R242, R243, R244,
R245, R246). -/
def Obligations.FlagInstructionResults : Prop :=
  encodingsOf .clc = [⟨0x18, .imp, 1, 2, false⟩] ∧
  encodingsOf .cld = [⟨0xD8, .imp, 1, 2, false⟩] ∧
  encodingsOf .cli = [⟨0x58, .imp, 1, 2, false⟩] ∧
  encodingsOf .clv = [⟨0xB8, .imp, 1, 2, false⟩] ∧
  encodingsOf .sec = [⟨0x38, .imp, 1, 2, false⟩] ∧
  encodingsOf .sed = [⟨0xF8, .imp, 1, 2, false⟩] ∧
  encodingsOf .sei = [⟨0x78, .imp, 1, 2, false⟩] ∧
  (∀ s : State, exec .clc s = .next { s with
    flags := { s.flags with c := false }, cycles := s.cycles + 2 }) ∧
  (∀ s : State, exec .cld s = .next { s with
    flags := { s.flags with d := false }, cycles := s.cycles + 2 }) ∧
  (∀ s : State, exec .cli s = .next { s with
    flags := { s.flags with i := false }, cycles := s.cycles + 2 }) ∧
  (∀ s : State, exec .clv s = .next { s with
    flags := { s.flags with v := false }, cycles := s.cycles + 2 }) ∧
  (∀ s : State, exec .sec s = .next { s with
    flags := { s.flags with c := true }, cycles := s.cycles + 2 }) ∧
  (∀ s : State, exec .sed s = .next { s with
    flags := { s.flags with d := true }, cycles := s.cycles + 2 }) ∧
  (∀ s : State, exec .sei s = .next { s with
    flags := { s.flags with i := true }, cycles := s.cycles + 2 })

/-- Every no-op, documented, undocumented or fallback, moves PC past itself, adds its cost to cycles and changes
nothing else (R247, R275, R276, R277, R278, R279). -/
def Obligations.NoOpResults : Prop :=
  encodingsOf .nop = [⟨0x02, .imp, 1, 2, false⟩, ⟨0x04, .zp, 2, 3, false⟩, ⟨0x0C, .abs, 3, 4, false⟩,
    ⟨0x12, .imp, 1, 2, false⟩, ⟨0x14, .zpx, 2, 4, false⟩, ⟨0x1A, .imp, 1, 2, false⟩, ⟨0x1C, .abx, 3, 4, true⟩,
    ⟨0x22, .imp, 1, 2, false⟩, ⟨0x32, .imp, 1, 2, false⟩, ⟨0x34, .zpx, 2, 4, false⟩, ⟨0x3A, .imp, 1, 2, false⟩,
    ⟨0x3C, .abx, 3, 4, true⟩, ⟨0x42, .imp, 1, 2, false⟩, ⟨0x44, .zp, 2, 3, false⟩, ⟨0x52, .imp, 1, 2, false⟩,
    ⟨0x54, .zpx, 2, 4, false⟩, ⟨0x5A, .imp, 1, 2, false⟩, ⟨0x5C, .abx, 3, 4, true⟩, ⟨0x62, .imp, 1, 2, false⟩,
    ⟨0x64, .zp, 2, 3, false⟩, ⟨0x72, .imp, 1, 2, false⟩, ⟨0x74, .zpx, 2, 4, false⟩, ⟨0x7A, .imp, 1, 2, false⟩,
    ⟨0x7C, .abx, 3, 4, true⟩, ⟨0x80, .imm, 2, 2, false⟩, ⟨0x82, .imm, 2, 2, false⟩, ⟨0x89, .imm, 2, 2, false⟩,
    ⟨0x8B, .imm, 2, 2, false⟩, ⟨0x92, .imp, 1, 2, false⟩, ⟨0x93, .izy, 2, 6, false⟩, ⟨0x9B, .aby, 3, 5, false⟩,
    ⟨0x9C, .abx, 3, 5, false⟩, ⟨0x9E, .aby, 3, 5, false⟩, ⟨0x9F, .aby, 3, 5, false⟩, ⟨0xAB, .imm, 2, 2, false⟩,
    ⟨0xB2, .imp, 1, 2, false⟩, ⟨0xC2, .imm, 2, 2, false⟩, ⟨0xD2, .imp, 1, 2, false⟩, ⟨0xD4, .zpx, 2, 4, false⟩,
    ⟨0xDA, .imp, 1, 2, false⟩, ⟨0xDC, .abx, 3, 4, true⟩, ⟨0xE2, .imm, 2, 2, false⟩, ⟨0xEA, .imp, 1, 2, false⟩,
    ⟨0xF2, .imp, 1, 2, false⟩, ⟨0xF4, .zpx, 2, 4, false⟩, ⟨0xFA, .imp, 1, 2, false⟩, ⟨0xFC, .abx, 3, 4, true⟩] ∧
  (∀ (i : Instr) (s : State), i.mnemonic = .nop → exec i s = .next { s with cycles := s.cycles + costOf i s }) ∧
  (∀ s : State, let op := s.memRead s.pc
    ((rowOf op.1).mnemonic = .nop →
      s.fetch.2.opcode = op.1 ∧ s.fetch.2.pc = s.pc + BitVec.ofNat 16 (rowOf op.1).mode.length) ∧
    (op.1 ∈ [0x80, 0x82, 0x89, 0xC2, 0xE2] → s.fetch.2 = { op.2 with opcode := op.1, pc := s.pc + 2 }))

/-- SBC then ADC of the same operand restores A when the carry is set as R196 says (R196). -/
def Obligations.SbcThenAdcRestores : Prop :=
  ∀ (a m : Byte) (f : Flags), let r := sbcBinary a m f
    (adcBinary r.1 m { r.2 with c := !f.c }).1 = a ∧ (adcBinary r.1 m { r.2 with c := !f.c }).2.c = !r.2.c ∧
    ((adcBinary r.1 m r.2).1 = a ↔ r.2.c ≠ f.c)

/-- ROL and ROR undo each other; ASL doubles and LSR halves; nine ROLs, not eight, restore the operand (R208). -/
def Obligations.ShiftLaws : Prop :=
  (∀ (v : Byte) (f : Flags), let r := rolByte v f; let q := rorByte v f
    rorByte r.1 r.2 = (v, f) ∧ rolByte q.1 q.2 = (v, f) ∧
    (aslByte v f).1.toNat = 2 * v.toNat % 256 ∧ (aslByte v f).2 = { f with c := v.getLsbD 7 } ∧
    (lsrByte v f).1.toNat = v.toNat / 2 ∧ (lsrByte v f).2 = { f with c := decide (v.toNat % 2 = 1) } ∧
    (fun p : Byte × Flags => rolByte p.1 p.2)^[9] (v, f) = (v, f)) ∧
  (∃ (v : Byte) (f : Flags), ((fun p : Byte × Flags => rolByte p.1 p.2)^[8] (v, f)).1 ≠ v)

/-- The status byte holds N V 1 b D I Z C, and SetP reads the six flags back whatever bits 5 and 4 are (R29). -/
def Obligations.StatusByteLayout : Prop :=
  (∀ (b : Bool) (f : Flags), let p := statusByte b f
    p.getLsbD 7 = f.n ∧ p.getLsbD 6 = f.v ∧ p.getLsbD 5 = true ∧ p.getLsbD 4 = b ∧ p.getLsbD 3 = f.d ∧
    p.getLsbD 2 = f.i ∧ p.getLsbD 1 = f.z ∧ p.getLsbD 0 = f.c ∧ flagsOfByte p = f) ∧
  (∀ v w : Byte, flagsOfByte v = flagsOfByte w ↔ v &&& 0xCF = w &&& 0xCF)

/-- The effective address and page crossing of every addressing mode, with all its wraps (R132, R133, R134, R135,
R136, R137, R138, R139, R140, R141, R142). -/
def Obligations.EffectiveAddresses : Prop :=
  ∀ (i : Instr) (s : State), let e := effectiveAddress i s
    (i.mode = .imm → e.addr = s.pc - 1 ∧ e.state = s) ∧
    (∀ op d8 : Byte, encode i = [op, d8] →
      let zx := (d8.toNat + s.x.toNat) % 256
      let px := s.mem.read zx |>.toNat
      let qx := s.mem.read ((zx + 1) % 256) |>.toNat
      let base := (s.mem.read d8.toNat).toNat + 256 * (s.mem.read ((d8.toNat + 1) % 256)).toNat
      e.state = s ∧
      (i.mode = .zp → e.addr.toNat = d8.toNat ∧ e.crossed = false) ∧
      (i.mode = .zpx → e.addr.toNat = (d8.toNat + s.x.toNat) % 256 ∧ e.crossed = false) ∧
      (i.mode = .zpy → e.addr.toNat = (d8.toNat + s.y.toNat) % 256 ∧ e.crossed = false) ∧
      (i.mode = .izx → e.addr.toNat = px + 256 * qx ∧ e.crossed = false) ∧
      (i.mode = .izy → e.addr.toNat = (base + s.y.toNat) % 65536 ∧ (e.crossed = true ↔ e.addr.toNat / 256 ≠ base / 256)) ∧
      (i.mode = .rel → (e.addr.toNat : Int) = (s.pc.toNat + d8.toInt) % 65536 ∧
        (e.crossed = true ↔ e.addr.toNat / 256 ≠ s.pc.toNat / 256))) ∧
    (∀ op l h : Byte, encode i = [op, l, h] →
      let base := l.toNat + 256 * h.toNat
      (i.mode = .abs → e.addr.toNat = base ∧ e.crossed = false ∧ e.state = s) ∧
      (i.mode = .abx → e.addr.toNat = (base + s.x.toNat) % 65536 ∧
        (e.crossed = true ↔ e.addr.toNat / 256 ≠ base / 256) ∧ e.state = s) ∧
      (i.mode = .aby → e.addr.toNat = (base + s.y.toNat) % 65536 ∧
        (e.crossed = true ↔ e.addr.toNat / 256 ≠ base / 256) ∧ e.state = s) ∧
      (i.mode = .ind → let lowRead := s.memRead (join h l); let highRead := lowRead.2.memRead (join h (l + 1))
        e.addr.toNat = lowRead.1.toNat + 256 * highRead.1.toNat ∧ e.crossed = false ∧ e.state = highRead.2))

/-- An instruction changes no byte of memory but those it stores to (R84, R85, R162, R170). -/
def Obligations.StoredBytesFrame : Prop :=
  ∀ (i : Instr) (s t : State), exec i s = .next t →
    (∀ b : Nat, (∀ p ∈ storedAddresses i s, p.toNat ≠ b) → t.mem.read b = s.mem.read b) ∧
    (storedAddresses i s = [] → t.mem = s.mem) ∧
    (∀ b : Nat, isRom b = true → t.mem.read b = s.mem.read b) ∧
    ((∀ p ∈ storedAddresses i s, isPia p.toNat = false) → t.output = s.output)

/-- Only the instructions the spec lists write A, X, Y and S (R21, R22, R23, R24). -/
def Obligations.RegisterFrame : Prop :=
  ∀ (i : Instr) (s t : State), exec i s = .next t →
    (i.mnemonic ∉ writersOfA → i.mode ≠ .acc → t.a = s.a) ∧
    (i.mnemonic ∉ writersOfX → t.x = s.x) ∧
    (i.mnemonic ∉ writersOfY → t.y = s.y) ∧
    (i.mnemonic ∉ writersOfS → t.sp = s.sp)

/-- Only the instructions the table of R27 lists write a flag (R27). -/
def Obligations.FlagFrame : Prop :=
  ∀ (i : Instr) (s t : State), exec i s = .next t →
    (i.mnemonic ∉ writersOfNZ → t.flags.n = s.flags.n ∧ t.flags.z = s.flags.z) ∧
    (i.mnemonic ∉ writersOfC → t.flags.c = s.flags.c) ∧
    (i.mnemonic ∉ writersOfV → t.flags.v = s.flags.v) ∧
    (i.mnemonic ∉ writersOfD → t.flags.d = s.flags.d) ∧
    (i.mnemonic ∉ writersOfI → t.flags.i = s.flags.i) ∧
    ([Mnemonic.sta, .stx, .sty, .txs, .pha, .php, .jmp, .jsr, .rts, .sax, .nop].contains i.mnemonic = true ∨
      i.mode = .rel → t.flags = s.flags)

/-- No instruction touches the interrupt inputs, the hook, the Clock, the fault bit, the host events or the model's
own fields (R10, R12, R31, R35, R45, R46, R53, R54). agenda, quantumLeft, freeCount and cpuAlone are the model's own
fields (logs 5, 6, 8, 9). -/
def Obligations.OtherStateFrame : Prop :=
  ∀ (i : Instr) (s t : State), exec i s = .next t →
    t.opcode = s.opcode ∧ t.inputs = s.inputs ∧ t.hook = s.hook ∧ t.clock = s.clock ∧ t.faulted = s.faulted ∧
    t.hostEvents = s.hostEvents ∧ t.wiring = s.wiring ∧ t.agenda = s.agenda ∧ t.quantumLeft = s.quantumLeft ∧
    t.freeCount = s.freeCount ∧
    ([Mnemonic.jmp, .jsr, .rts, .rti, .brk].contains i.mnemonic = false → i.mode ≠ .rel → t.pc = s.pc)

/-- A step of a running machine wires the interrupt inputs, does one CPU step (exec of the instruction decoded at
PC) and counts down the quantum (R84, R300, R302, R311, R334, R361). That one step is one CPU step of the quantum,
that a quantum can stand on the agenda, that exec runs behind the fetch, and that a CPU can stand alone, are the
model's choices (logs 5, 6, 8, 18). -/
def Obligations.StepRunsDecodedInstruction : Prop :=
  let after (t : State) : State :=
    if t.quantumLeft ≤ 1 ∨ t.stopped = true then ({ t with quantumLeft := 0 } : State).flush
    else { t with quantumLeft := t.quantumLeft - 1 }
  (∀ (s q w : State) (i : Instr) (rest : List Byte), s.stopped = false → s.inQuantum q →
    w = q.wireInputs → w.hook.allows w.pc = true → w.inputs.nmiPending = false →
    (w.inputs.irqLine = false ∨ w.flags.i = true) → decode w.fetch.1 = .ok (i, rest) → i.wellFormed = true →
    ∃ t : State, exec i w.fetch.2 = .next t ∧ step s = .next (after t)) ∧
  (∀ (s q u : State) (r : CpuResult), s.stopped = false → s.inQuantum q →
    cpuStep q.wireInputs = .next (r, u) → r ≠ .halted → step s = .next (after u)) ∧
  (∀ s : State, s.wiring.cpuAlone = false → s.wireInputs = { s with
    inputs := ⟨s.wiring.piaIrqWired && (s.pia.portA.irq || s.pia.portB.irq), false, s.inputs.nmiPending⟩ }) ∧
  (∀ s : State, s.wiring.cpuAlone = true → s.wireInputs = s)

/-- In every state, fetching reads the bytes at PC one by one through the bus, latches the opcode and leaves PC past
the instruction (R25, R31, R74, R83, R84, R132, R276). That a skipped operand byte still stands among the bytes
decoded is the model's choice (log 17). -/
def Obligations.FetchReadsTheBytesAtPc : Prop :=
  (∀ s : State,
    let op := s.memRead s.pc
    let s1 : State := { op.2 with opcode := op.1, pc := s.pc + 1 }
    let m1 := s1.memRead (s.pc + 1)
    let s2 : State := { m1.2 with pc := s.pc + 2 }
    let m2 := s2.memRead (s.pc + 2)
    let row := rowOf op.1
    s.fetch =
      if row.mode.length = 1 then ([op.1], s1)
      else if row.mode.length = 3 then ([op.1, m1.1, m2.1], { m2.2 with pc := s.pc + 3 })
      else ([op.1, m1.1], if row.mnemonic = .nop ∧ row.mode = .imm then { s1 with pc := s.pc + 2 } else s2)) ∧
  (∀ s : State, isStored s.pc.toNat = true → isStored (s.pc + 1).toNat = true → isStored (s.pc + 2).toNat = true →
    let op := s.mem.read s.pc.toNat
    s.fetch.1 = [op, s.mem.read (s.pc + 1).toNat, s.mem.read (s.pc + 2).toNat].take (rowOf op).mode.length ∧
    s.fetch.2 = { s with opcode := op, pc := s.pc + BitVec.ofNat 16 (rowOf op).mode.length }) ∧
  (∀ s : State, isStored s.pc.toNat = false → isPia s.pc.toNat = false →
    s.fetch = ([0x00], { s with opcode := 0x00, pc := s.pc + 1 }) ∧ decode s.fetch.1 = .ok (.brk, [])) ∧
  (∀ s : State, (rowOf (s.memRead s.pc).1).mnemonic = .nop → (rowOf (s.memRead s.pc).1).mode = .imm →
    s.fetch.2 = { (s.memRead s.pc).2 with opcode := (s.memRead s.pc).1, pc := s.pc + 2 })

/-- Every step of every state answers a next state: nothing traps, faults or is refused (R16, R109, R306, R369). -/
def Obligations.StepNeverStops : Prop :=
  (∀ s : State, ∃ t : State, step s = .next t) ∧ (∀ (i : Instr) (s : State), ∃ t : State, exec i s = .next t)

/-- Every step keeps the invariant of the machine (R36, R302, R354, R361). That cpuAlone machines are exempt from
the wiring clauses, and that the steps of a quantum are counted in the state, are the model's choices (logs 5, 8). -/
def Obligations.StepKeepsInv : Prop :=
  ∀ s t : State, Inv s → step s = .next t → Inv t

/-- The state after reset satisfies the invariant (R56, R57, R58, R401). State.reset is built with arguments the
model chose (logs 1, 2, 3, 4). -/
def Obligations.ResetSatisfiesInv : Prop :=
  Inv State.reset

/-- No step of any agent changes a byte of the ROM, vectors included (R51, R66, R72, R386). -/
def Obligations.RomNeverChanges : Prop :=
  ∀ (s t : State) (b : Nat), isRom b = true → step s = .next t → t.mem.read b = s.mem.read b

/-- cycles never decreases except by LoadState (R30, R36). -/
def Obligations.CyclesNeverDecrease : Prop :=
  ∀ s t : State,
    (s.quantumLeft = 0 → ∀ (snap : Snapshot) (now : Rat) (rest : List Turn),
      s.agenda ≠ .host (.loadState snap now) :: rest) →
    step s = .next t → s.cycles ≤ t.cycles

/-- At a step boundary: a halting hook, then NMI, then an unmasked IRQ, then the instruction; what a hook answers
and the inputs latch (R35, R300, R301, R302, R303, R304, R309, R354, R380, R384). The turns that drive the inputs of
a CPU standing alone, and the hook as data, are the model's (logs 5, 11). -/
def Obligations.CpuStepOrder : Prop :=
  (∀ s : State,
    let entry (vector : Nat) : State := { s with
      mem := ((s.mem.write (256 + s.sp.toNat) (hi s.pc)).write (256 + (s.sp - 1).toNat) (lo s.pc)).write
        (256 + (s.sp - 2).toNat) (statusByte false s.flags),
      sp := s.sp - 3, flags := { s.flags with i := true },
      pc := join (s.mem.read (vector + 1)) (s.mem.read vector), cycles := s.cycles + 7 }
    (s.hook.allows s.pc = false → cpuStep s = .next (.halted, s)) ∧
    (s.hook.allows s.pc = true → s.inputs.nmiPending = true →
      cpuStep s = .next (.nmi, { entry 0xFFFA with inputs := { s.inputs with nmiPending := false } })) ∧
    (s.hook.allows s.pc = true → s.inputs.nmiPending = false → s.inputs.irqLine = true → s.flags.i = false →
      cpuStep s = .next (.irq, entry 0xFFFE)) ∧
    (s.hook.allows s.pc = true → s.inputs.nmiPending = false → (s.inputs.irqLine = false ∨ s.flags.i = true) →
      ∃ (i : Instr) (rest : List Byte) (t : State), decode s.fetch.1 = .ok (i, rest) ∧ exec i s.fetch.2 = .next t ∧
        cpuStep s = .next (.ok, t))) ∧
  (∀ (pc target : Addr) (set : List Addr), Hook.absent.allows pc = true ∧
    ((Hook.breakpoint set).allows pc = true ↔ pc ∉ set) ∧
    ((Hook.runTo target set).allows pc = true ↔ pc ≠ target ∧ pc ∉ set)) ∧
  (∀ (s : State) (h : Hook) (rest : List Turn), s.quantumLeft = 0 → s.agenda = .host (.setHook h) :: rest →
    step s = .next ({ s with agenda := rest, hook := h } : State).flush) ∧
  (∀ (s : State) (level : Bool),
    s.setIrqLine level = { s with inputs := { s.inputs with irqLine := level } } ∧
    s.setNmiLine level = { s with inputs := ⟨s.inputs.irqLine, level, (s.setNmiLine level).inputs.nmiPending⟩ } ∧
    ((s.setNmiLine level).inputs.nmiPending = true ↔
      s.inputs.nmiPending = true ∨ s.inputs.nmiLine = false ∧ level = true)) ∧
  (∀ (s : State) (level : Bool) (rest : List Turn), s.quantumLeft = 0 →
    let u : State := { s with agenda := rest }
    (s.agenda = .setIrqLine level :: rest →
      step s = .next (if s.wiring.cpuAlone then u.setIrqLine level else u)) ∧
    (s.agenda = .setNmiLine level :: rest →
      step s = .next (if s.wiring.cpuAlone then u.setNmiLine level else u)))

/-- Interrupt entry pushes PC and P(b), sets I, loads PC from the vector, and changes nothing else (R305). -/
def Obligations.InterruptEntry : Prop :=
  ∀ (s : State) (vector : Addr) (b : Bool), vector = nmiVector ∨ vector = resetVector ∨ vector = irqVector →
    let m := ((s.mem.write (256 + s.sp.toNat) (hi s.pc)).write (256 + (s.sp - 1).toNat) (lo s.pc)).write
      (256 + (s.sp - 2).toNat) (statusByte b s.flags)
    s.interrupt vector b = { s with
      mem := m, sp := s.sp - 3, flags := { s.flags with i := true },
      pc := join (s.mem.read (vector.toNat + 1)) (s.mem.read vector.toNat) } ∧
    m.read (256 + s.sp.toNat) = hi s.pc ∧ m.read (256 + (s.sp - 1).toNat) = lo s.pc ∧
    m.read (256 + (s.sp - 2).toNat) = statusByte b s.flags ∧
    (∀ k : Nat, k ≠ 256 + s.sp.toNat → k ≠ 256 + (s.sp - 1).toNat → k ≠ 256 + (s.sp - 2).toNat →
      m.read k = s.mem.read k)

/-- Returning from an interrupt right after entering it restores everything but the three stacked bytes (R223, R305,
R310). -/
def Obligations.RtiUndoesInterrupt : Prop :=
  ∀ (s : State) (vector : Addr) (b : Bool), vector = nmiVector ∨ vector = irqVector →
    (s.interrupt vector b).returnFromInterrupt = { s with mem := (s.interrupt vector b).mem }

/-- RTS right after JSR returns to the instruction behind the JSR with S restored (R176, R221, R222). -/
def Obligations.RtsUndoesJsr : Prop :=
  ∀ (a16 : Addr) (s t u : State), exec (.jsr a16) s = .next t → exec .rts t = .next u →
    t.pc = a16 ∧ u = { s with mem := t.mem, cycles := s.cycles + 12 }

/-- A stopped machine idles; a halt pauses the Clock and tells the host; the length of a quantum is within the chunk
(R301, R354, R361, R363, R369). That one step is one CPU step of the quantum, that a quantum can stand on the
agenda, and that an idle machine answers the same state, are the model's choices (logs 6, 8, 22). -/
def Obligations.QuantumRules : Prop :=
  (∀ s : State, s.stopped = true →
    (s.quantumLeft = 0 → s.agenda = [] → step s = .next s) ∧
    (∀ (n : Nat) (rest : List Turn), s.quantumLeft = 0 → s.agenda = .quantum n :: rest →
      step s = .next { s with agenda := rest }) ∧
    (s.quantumLeft ≠ 0 → step s = .next ({ s with quantumLeft := 0 } : State).flush)) ∧
  (∀ s q : State, s.stopped = false → s.inQuantum q → s.hook.allows s.pc = false →
    step s = .next ({ q.wireInputs with
      clock := { s.clock with paused := true }, hostEvents := s.hostEvents ++ [.hookHalted s.pc],
      quantumLeft := 0 } : State).flush) ∧
  (∀ clock : Clock, 0 < clock.chunk →
    (clock.cycleAccurate = false → ∀ n : Nat, quantumLength n clock = clock.chunk) ∧
    (clock.cycleAccurate = true →
      (∀ n : Nat, 1 ≤ quantumLength n clock ∧ quantumLength n clock ≤ clock.chunk) ∧
      (∀ n : Nat, 1 ≤ n → n ≤ clock.chunk → quantumLength n clock = n)))

/-- A program cannot pause or fault the machine, nor change what the host has set (R361, R363, R369). That one step
is one CPU step of the quantum, and that a quantum can stand on the agenda, are the model's choices (logs 6, 8). -/
def Obligations.ProgramCannotStopTheMachine : Prop :=
  ∀ s q t : State, s.stopped = false → s.inQuantum q → s.hook.allows s.pc = true → step s = .next t →
    t.stopped = false ∧ t.clock = s.clock ∧ t.hook = s.hook ∧ t.wiring = s.wiring ∧ t.agenda = q.agenda

/-- The output history and the host events only grow; parameters stay; a fault is never raised nor cleared (R8, R48,
R351, R368, R388). That reset calls and failed sinks are part of these histories is the model's choice (logs 14, 15,
16). -/
def Obligations.HistoriesOnlyGrow : Prop :=
  ∀ s t : State, step s = .next t →
    s.output <+: t.output ∧ s.hostEvents <+: t.hostEvents ∧ t.wiring = s.wiring ∧
    t.clock.targetHz = s.clock.targetHz ∧ t.clock.chunk = s.clock.chunk ∧ t.faulted = s.faulted

/-- No instruction moves a control line or the override, sets an interrupt flag, or clears a C2 flag (R43, R44, R45,
R46, R330, R331, R333). -/
def Obligations.CpuCannotRaisePiaFlags : Prop :=
  ∀ (i : Instr) (s t : State), exec i s = .next t →
    t.pia.pb7Override = s.pia.pb7Override ∧
    ∀ p q : Port, (p = s.pia.portA ∧ q = t.pia.portA ∨ p = s.pia.portB ∧ q = t.pia.portB) →
      q.c1 = p.c1 ∧ q.c2 = p.c2 ∧ q.prevC1 = p.prevC1 ∧ q.prevC2 = p.prevC2 ∧
      q.control.getLsbD 6 = p.control.getLsbD 6 ∧ (q.control.getLsbD 7 = true → p.control.getLsbD 7 = true)

/-- CpuReset, PiaReset and MachineReset (R354, R380, R383, R400, R401, R402). The deviceReset event that tells the
devices is the model's choice (log 15). -/
def Obligations.ResetResults : Prop :=
  (∀ s : State, s.cpuReset = { s with
    a := 0, x := 0, y := 0, sp := 0, flags := ⟨false, false, false, false, false, false⟩,
    inputs := { s.inputs with nmiPending := false }, pc := join (s.mem.read 0xFFFD) (s.mem.read 0xFFFC) }) ∧
  (∀ p : Pia, let zero : Port := ⟨0, 0, 0, false, false, false, false⟩
    p.reset.portA = zero ∧ p.reset.portB = zero ∧ p.reset.pb7Override = false ∧
    (p.reset.notifyPending = true ↔ p.notifyPending = true ∨ p.portA ≠ zero ∨ p.portB ≠ zero ∨ p.pb7Override = true)) ∧
  (∀ (s : State) (rest : List Turn), s.quantumLeft = 0 → s.agenda = .host .reset :: rest →
    step s = .next ({ s with
      agenda := rest, pia := s.pia.reset, output := s.output ++ [.deviceReset],
      a := 0, x := 0, y := 0, sp := 0, flags := ⟨false, false, false, false, false, false⟩,
      inputs := { s.inputs with nmiPending := false },
      pc := join (s.mem.read 0xFFFD) (s.mem.read 0xFFFC) } : State).flush)

/-- A machine exists exactly for valid parameters, holds its images, starts at the reset vector, paused, and
satisfies the invariant (R8, R56, R57, R61, R401). What the fields outside the rules start with is the model's
choice: the one deviceReset event of the output (log 15), cpuAlone = false (log 5), the empty agenda (log 6), no
quantum in progress (log 8) and freeCount = 0 (log 9). So are the construction arguments of State.reset in the last
clause (logs 1, 2, 3, 4). -/
def Obligations.ConstructedMachine : Prop :=
  (∀ p : Params, p.valid = false → machineConstruct p = .error .configError) ∧
  (∀ p : Params, p.valid = true → ∃ t : State, machineConstruct p = .ok t ∧ Inv t ∧
    (∀ (k : Nat) (v : Byte), p.romImage[k]? = some v → t.mem.read (0xFF00 + k) = v) ∧
    (∀ (k : Nat) (v : Byte), p.ram0Init[k]? = some v → t.mem.read k = v) ∧
    (∀ (k : Nat) (v : Byte), p.ram1Init[k]? = some v → t.mem.read (0xE000 + k) = v) ∧
    t.pc = join (t.mem.read 0xFFFD) (t.mem.read 0xFFFC) ∧
    t = { State.reset with
      mem := t.mem, pc := t.pc, clock := ⟨p.targetHz, p.chunk, true, 0, false, none, none⟩,
      wiring := ⟨p.piaIrqWired, p.hostReadSideEffects, false⟩ }) ∧
  machineConstruct ⟨List.replicate 256 0, List.replicate 4096 0, List.replicate 4096 0, false, false, 1, 1⟩ =
    .ok State.reset

/-- A Bus is constructed exactly when every range is valid and no two overlap; the machine's own entries are (R61). -/
def Obligations.BusConstruction : Prop :=
  (∀ entries : List BusEntry,
    ((∀ e ∈ entries, e.start ≤ e.stop ∧ e.stop ≤ 0xFFFF) ∧
      (∀ (j k : Nat) (e f : BusEntry), j < k → entries[j]? = some e → entries[k]? = some f →
        ¬ (e.start ≤ f.stop ∧ f.start ≤ e.stop)) → busConstruct entries = .ok entries) ∧
    (¬ ((∀ e ∈ entries, e.start ≤ e.stop ∧ e.stop ≤ 0xFFFF) ∧
      (∀ (j k : Nat) (e f : BusEntry), j < k → entries[j]? = some e → entries[k]? = some f →
        ¬ (e.start ≤ f.stop ∧ f.start ≤ e.stop))) → busConstruct entries = .error .configError)) ∧
  busConstruct machineBus = .ok machineBus ∧
  (∀ entries : List BusEntry, busConstruct entries = .ok entries → ∀ (a j k : Nat) (e f : BusEntry),
    entries[j]? = some e → entries[k]? = some f → e.start ≤ a → a ≤ e.stop → f.start ≤ a → a ≤ f.stop → j = k)

/-- The memory map: what a bus read gives and a bus write does at every address (R62, R63, R65, R66, R70). -/
def Obligations.MemoryMap : Prop :=
  ∀ (s : State) (a : Addr) (v : Byte),
    let ram := a.toNat ≤ 0x0FFF ∨ 0xE000 ≤ a.toNat ∧ a.toNat ≤ 0xEFFF
    let rom := 0xFF00 ≤ a.toNat
    let pia := 0xD010 ≤ a.toNat ∧ a.toNat ≤ 0xD013
    (ram ∨ rom → s.memRead a = (s.mem.read a.toNat, s)) ∧
    (∀ o : Nat, o ≤ 3 → a.toNat = 0xD010 + o → s.memRead a = ((s.pia.read o).1, { s with pia := (s.pia.read o).2 })) ∧
    (¬ ram → ¬ rom → ¬ pia → s.memRead a = (0x00, s)) ∧
    (ram → s.memWrite a v = { s with mem := s.mem.write a.toNat v } ∧ (s.memWrite a v).memRead a = (v, s.memWrite a v) ∧
      ∀ b : Nat, b ≠ a.toNat → (s.memWrite a v).mem.read b = s.mem.read b) ∧
    (∀ o : Nat, o ≤ 3 → a.toNat = 0xD010 + o → s.memWrite a v =
      { s with pia := (s.pia.write o v).1, output := s.output ++ (s.pia.write o v).2 }) ∧
    (¬ ram → ¬ pia → s.memWrite a v = s)

/-- What reading and writing each of the four PIA registers gives and does (R330, R331). -/
def Obligations.PiaRegisterAccess : Prop :=
  ∀ (p : Pia) (v : Byte),
    p.read 0 = (if p.portA.control.getLsbD 2 then (p.portA.output,
        if p.portA.control.getLsbD 7 then
          { p with portA := { p.portA with control := p.portA.control &&& 0x7F }, notifyPending := true } else p)
      else (p.portA.ddr, p)) ∧
    p.read 1 = (p.portA.control, p) ∧
    p.read 2 = (if p.portB.control.getLsbD 2 then ((p.portB.output &&& 0x7F) ||| (if p.pb7Override then 0x80 else 0x00),
        if p.portB.control.getLsbD 7 then
          { p with portB := { p.portB with control := p.portB.control &&& 0x7F }, notifyPending := true } else p)
      else (p.portB.ddr, p)) ∧
    p.read 3 = (p.portB.control, p) ∧
    p.write 0 v = (if p.portA.control.getLsbD 2 then
        ({ p with portA := { p.portA with output := v }, notifyPending := p.notifyPending || p.portA.output != v },
          [.sinkWrite .a v])
      else ({ p with portA := { p.portA with ddr := v }, notifyPending := p.notifyPending || p.portA.ddr != v }, [])) ∧
    p.write 1 v = (let n := (p.portA.control &&& 0xC0) ||| (v &&& 0x3F)
      ({ p with portA := { p.portA with control := n }, notifyPending := p.notifyPending || n != p.portA.control }, [])) ∧
    p.write 2 v = (if p.portB.control.getLsbD 2 then
        ({ p with portB := { p.portB with output := v }, notifyPending := p.notifyPending || p.portB.output != v },
          [.sinkWrite .b v])
      else ({ p with portB := { p.portB with ddr := v }, notifyPending := p.notifyPending || p.portB.ddr != v }, [])) ∧
    p.write 3 v = (let n := (p.portB.control &&& 0xC0) ||| (v &&& 0x3F)
      ({ p with portB := { p.portB with control := n }, notifyPending := p.notifyPending || n != p.portB.control }, []))

/-- A control line sets its flag on the selected edge only; the override, the port-A input, the outputs and the
flush (R334, R340, R341, R342, R343, R344, R345, R354). A level is a Bool (log 23). -/
def Obligations.DeviceActions : Prop :=
  (∀ (p : Port) (level : Bool),
    p.setLine .c1 level = { p with
      c1 := level, prevC1 := p.c1,
      control := if p.c1 ≠ level ∧ p.control.getLsbD 1 = level then p.control ||| 0x80 else p.control } ∧
    p.setLine .c2 level = { p with
      c2 := level, prevC2 := p.c2,
      control := if p.c2 ≠ level ∧ p.control.getLsbD 5 = false ∧ p.control.getLsbD 4 = level then p.control ||| 0x40
        else p.control }) ∧
  (∀ (p : Pia) (k : LineName) (level : Bool),
    p.setLine .a k level = { p with
      portA := p.portA.setLine k level, notifyPending := p.notifyPending || p.portA.level k != level } ∧
    p.setLine .b k level = { p with
      portB := p.portB.setLine k level, notifyPending := p.notifyPending || p.portB.level k != level }) ∧
  (∀ (p : Pia) (active : Bool) (v : Byte),
    p.setPB7Override active = { p with
      pb7Override := active, notifyPending := p.notifyPending || p.pb7Override != active } ∧
    (p.portAInput v).notifyPending = (p.notifyPending || (p.portAInput v).portA.output != p.portA.output) ∧
    (p.portAInput v) = { p with
      portA := { p.portA with output := (p.portAInput v).portA.output },
      notifyPending := (p.portAInput v).notifyPending } ∧
    (∀ k : Nat, k < 8 → (p.portAInput v).portA.output.getLsbD k =
      if p.portA.ddr.getLsbD k then p.portA.output.getLsbD k else v.getLsbD k)) ∧
  (∀ p : Port, p.irq = true ↔ p.control.getLsbD 7 = true ∧ p.control.getLsbD 0 = true ∨
    p.control.getLsbD 6 = true ∧ p.control.getLsbD 3 = true ∧ p.control.getLsbD 5 = false) ∧
  (∀ s : State, s.flush = if s.pia.notifyPending then { s with
      pia := { s.pia with notifyPending := false },
      hostEvents := s.hostEvents ++ [.deviceUpdate { s.pia with notifyPending := false }] } else s)

/-- A device turn changes the PIA and what the flush tells the host, and nothing else (R10, R82, R340, R341, R342,
R343, R344, R345, R351, R354). A failed sink as a device turn, and its Log event, are the model's choice (logs 14,
16). -/
def Obligations.DeviceTurns : Prop :=
  ∀ (s : State) (act : DeviceAction) (rest : List Turn), s.quantumLeft = 0 → s.agenda = .device act :: rest →
    let pia := match act with
      | .setCA1 level => s.pia.setLine .a .c1 level
      | .setCA2 level => s.pia.setLine .a .c2 level
      | .setCB1 level => s.pia.setLine .b .c1 level
      | .setCB2 level => s.pia.setLine .b .c2 level
      | .setPB7Override active => s.pia.setPB7Override active
      | .portAInput v => s.pia.portAInput v
      | .sinkFailed _ => s.pia
    let events := match act with
      | .sinkFailed port => [HostEvent.log (.sinkFailed port)]
      | _ => []
    let t := ({ s with agenda := rest, pia := pia, hostEvents := s.hostEvents ++ events } : State).flush
    step s = .next t ∧
    t = { s with agenda := rest, pia := { pia with notifyPending := false }, hostEvents := t.hostEvents }

/-- Pause, Resume, ResetTiming and SetCycleAccurate change the Clock fields their rules name and nothing else (R354,
R362, R363, R364, R365, R366, R380, R381). The Status events, that Resume leaves the anchors of a faulted machine,
and the measurement turn are the model's (logs 12, 14, 26). -/
def Obligations.ClockCommands : Prop :=
  (∀ s : State, s.pause = { s with clock := { s.clock with paused := true } } ∧ s.pause.pause = s.pause) ∧
  (∀ (s : State) (now : Rat),
    (s.faulted = false → s.resume now = { s with
      clock := { s.clock with anchorTime := some now, anchorCycles := some s.cycles, drift := 0, paused := false } }) ∧
    (s.faulted = true → s.resume now = { s with clock := { s.clock with paused := false } })) ∧
  (∀ (s : State) (now : Rat), s.resetTiming now = { s with
    clock := { s.clock with anchorTime := some now, anchorCycles := some s.cycles, drift := 0 } }) ∧
  (∀ (s : State) (flag : Bool), s.setCycleAccurate flag = { s with clock := { s.clock with cycleAccurate := flag } }) ∧
  (∀ (s : State) (rest : List Turn), s.quantumLeft = 0 → s.agenda = .host .pause :: rest →
    step s = .next ({ s with
      agenda := rest, clock := { s.clock with paused := true },
      hostEvents := s.hostEvents ++ [.status true s.pc s.cycles] } : State).flush) ∧
  (∀ (s : State) (now : Rat) (rest : List Turn),
    s.quantumLeft = 0 → s.faulted = false → s.agenda = .host (.resume now) :: rest →
    step s = .next ({ s with
      agenda := rest,
      clock := { s.clock with anchorTime := some now, anchorCycles := some s.cycles, drift := 0, paused := false },
      hostEvents := s.hostEvents ++ [.status false s.pc s.cycles] } : State).flush) ∧
  (∀ (s : State) (now : Rat) (rest : List Turn),
    s.quantumLeft = 0 → s.faulted = true → s.agenda = .host (.resume now) :: rest →
    step s = .next ({ s with
      agenda := rest, clock := { s.clock with paused := false },
      hostEvents := s.hostEvents ++ [.status false s.pc s.cycles] } : State).flush) ∧
  (∀ (s : State) (flag : Bool) (rest : List Turn),
    s.quantumLeft = 0 → s.agenda = .host (.setCycleAccurate flag) :: rest →
    step s = .next ({ s with agenda := rest, clock := { s.clock with cycleAccurate := flag } } : State).flush) ∧
  (∀ (s : State) (difference : Rat) (rest : List Turn), s.quantumLeft = 0 → s.agenda = .measure difference :: rest →
    step s = .next { s with agenda := rest, clock := { s.clock with drift := s.clock.drift + difference } })

/-- StepOne pauses, runs one CPU step with the hook out of the way, flushes, and only tells the host of a halt
(R302, R354, R380, R382). That the inputs are wired before this step too, and that the turn flushes once more, are
the model's reading (logs 21, 25). -/
def Obligations.StepOneRunsOneStep : Prop :=
  (∀ s : State,
    (s.faulted = true → stepOne s = .next s) ∧
    (s.faulted = false → ∃ (r : CpuResult) (u : State), r ≠ .halted ∧
      cpuStep ({ s with clock := { s.clock with paused := true }, hook := .absent } : State).wireInputs = .next (r, u) ∧
      u.clock = { s.clock with paused := true } ∧
      let t := ({ u with hook := s.hook } : State).flush
      stepOne s = .next (if s.hook.allows t.pc then t
        else { t with hostEvents := t.hostEvents ++ [.hookHalted t.pc] }))) ∧
  (∀ (s t : State) (rest : List Turn), s.quantumLeft = 0 → s.agenda = .host .stepOne :: rest →
    stepOne { s with agenda := rest } = .next t → step s = .next t.flush)

/-- Loading a saved snapshot reproduces the CPU, PIA and RAM state, keeps the ROM and re-times the Clock (R354,
R380, R385, R386). What a supported version is, the event that carries the snapshot, that the run-to target is
cleared in the hook, and that the load ends in a flush are the model's readings (logs 10, 14, 21, 24). -/
def Obligations.SnapshotRoundTrip : Prop :=
  (∀ (s m : State) (now : Rat), s.mem.wf = true → let u := loadState s.snapshot now m
    u.a = s.a ∧ u.x = s.x ∧ u.y = s.y ∧ u.sp = s.sp ∧ u.pc = s.pc ∧ u.flags = s.flags ∧ u.cycles = s.cycles ∧
    (∀ b : Nat, isRam b = true → u.mem.read b = s.mem.read b) ∧
    (∀ b : Nat, isRom b = true → u.mem.read b = m.mem.read b) ∧
    u.pia = ⟨s.pia.portA, s.pia.portB, s.pia.pb7Override, false⟩ ∧
    u.inputs = { m.inputs with nmiPending := false } ∧ u.faulted = m.faulted ∧ u.output = m.output ∧
    u.clock = { m.clock with anchorTime := some now, anchorCycles := some s.cycles, drift := 0 } ∧
    (∀ target set, m.hook = .runTo target set → ∀ pc : Addr, u.hook.allows pc = !set.contains pc) ∧
    u.hostEvents = m.hostEvents ++ [.deviceUpdate u.pia]) ∧
  (∀ (snap : Snapshot) (now : Rat) (m : State), snap.version.supported = false ∨ snap.wellFormed = false →
    loadState snap now m = m) ∧
  (∀ (s : State) (rest : List Turn), s.quantumLeft = 0 →
    (s.agenda = .host .saveState :: rest →
      step s = .next ({ s with agenda := rest, hostEvents := s.hostEvents ++ [.saved s.snapshot] } : State).flush) ∧
    (∀ (snap : Snapshot) (now : Rat), s.agenda = .host (.loadState snap now) :: rest →
      step s = .next (loadState snap now { s with agenda := rest }).flush))

/-- HostRead and HostWrite go through the Bus, bounds-checked (R354, R380, R387). The events that carry the answer
and the warning are the model's choice (log 14). -/
def Obligations.HostReadAndWrite : Prop :=
  (∀ (s : State) (addr val : Int),
    (0 ≤ addr ∧ addr ≤ 0xFFFF ∧ 0 ≤ val ∧ val ≤ 0xFF →
      hostWrite addr val s = s.memWrite (BitVec.ofInt 16 addr) (BitVec.ofInt 8 val)) ∧
    (¬ (0 ≤ addr ∧ addr ≤ 0xFFFF ∧ 0 ≤ val ∧ val ≤ 0xFF) →
      hostWrite addr val s = { s with hostEvents := s.hostEvents ++ [.log (.writeRejected addr val)] })) ∧
  (∀ (s : State) (start : Int) (len : Nat), s.wiring.hostReadSideEffects = false →
    hostRead start len s = { s with hostEvents := s.hostEvents ++ [.readReply start ((List.range len).map fun k : Nat =>
      if 0 ≤ start + k ∧ start + k ≤ 0xFFFF then (s.memRead (BitVec.ofInt 16 (start + k))).1 else 0)] }) ∧
  (∀ (s : State) (start : Int), s.hostReadBytes start 0 = ([], s) ∧
    ∀ n : Nat, s.wiring.hostReadSideEffects = true →
      let r := if 0 ≤ start ∧ start ≤ 0xFFFF then s.memRead (BitVec.ofInt 16 start) else (0, s)
      s.hostReadBytes start (n + 1) = (r.1 :: (r.2.hostReadBytes (start + 1) n).1, (r.2.hostReadBytes (start + 1) n).2)) ∧
  (∀ (s : State) (start : Int) (len : Nat), let r := s.hostReadBytes start len
    hostRead start len s = { r.2 with hostEvents := r.2.hostEvents ++ [.readReply start r.1] }) ∧
  (∀ (s : State) (rest : List Turn), s.quantumLeft = 0 →
    (∀ (start : Int) (len : Nat), s.agenda = .host (.hostRead start len) :: rest →
      step s = .next (hostRead start len { s with agenda := rest }).flush) ∧
    (∀ addr val : Int, s.agenda = .host (.hostWrite addr val) :: rest →
      step s = .next (hostWrite addr val { s with agenda := rest }).flush))

end
end

