-- ==== Sys2Proof/Laws/Memory.lean ====
section
/-! SUPPORT. The laws of the stored bytes: read after write, and that every operation keeps the canonical form. -/

namespace Sys2Proof.Machine

@[simp] theorem Memory.read_nil (a : Nat) : Memory.read [] a = Config.unlistedByte := rfl

theorem Memory.read_cons (c : Host.Cell) (m : Memory) (a : Nat) :
    Memory.read (c :: m) a = if c.1 = a then c.2 else Memory.read m a := rfl

theorem Memory.read_of_forall_ne (m : Memory) (a : Nat) (h : ∀ c ∈ m, c.1 ≠ a) : m.read a = Config.unlistedByte := by
  induction m with
  | nil => rfl
  | cons c m ih =>
    rw [read_cons, if_neg (h c (by simp))]
    exact ih fun d hd => h d (by simp [hd])

/-- A filter that keeps the cells at `a` leaves what `a` reads as. -/
theorem Memory.read_filter (m : Memory) (a : Nat) (p : Nat → Bool) (h : p a = true) :
    Memory.read (m.filter (fun c => p c.1)) a = m.read a := by
  induction m with
  | nil => rfl
  | cons c m ih =>
    rw [List.filter_cons]
    by_cases hc : c.1 = a
    · simp [hc, h, read_cons]
    · split <;> simp [read_cons, hc, ih]

/-- A filter that drops the cells at `a` makes it read as unlisted. -/
theorem Memory.read_filter_out (m : Memory) (a : Nat) (p : Nat → Bool) (h : p a = false) :
    Memory.read (m.filter (fun c => p c.1)) a = Config.unlistedByte := by
  apply read_of_forall_ne
  intro c hc he
  simp [he, h] at hc

theorem Memory.read_append (m k : Memory) (a : Nat) :
    Memory.read (m ++ k) a = if ∃ c ∈ m, c.1 = a then m.read a else k.read a := by
  induction m with
  | nil => simp
  | cons c m ih =>
    by_cases hc : c.1 = a
    · simp [read_cons, hc]
    · simp [read_cons, hc, ih]

theorem Memory.read_insert (m : Memory) (a : Nat) (v : Byte) (b : Nat) (h : ∀ c ∈ m, c.1 ≠ a) :
    (Memory.insert a v m).read b = if a = b then v else m.read b := by
  induction m with
  | nil => rfl
  | cons c m ih =>
    have hc : c.1 ≠ a := h c (by simp)
    unfold Memory.insert
    split
    · rfl
    · rw [read_cons, read_cons, ih fun d hd => h d (by simp [hd])]
      by_cases hb : c.1 = b
      · simp [hb, show a ≠ b from fun e => hc (hb.trans e.symm)]
      · simp [hb]

/-- Reading after a write: the byte written at its address, every other byte as before. -/
theorem Memory.read_write (m : Memory) (a : Nat) (v : Byte) (b : Nat) :
    (m.write a v).read b = if a = b then v else m.read b := by
  unfold Memory.write
  have hne : ∀ c ∈ m.filter (fun c => c.1 != a), c.1 ≠ a := by
    intro c hc
    simpa using (List.mem_filter.mp hc).2
  split
  · rename_i hv
    split
    · rename_i hb
      rw [hv, ← hb]
      exact read_of_forall_ne _ _ hne
    · rename_i hb
      exact read_filter m b (fun k => k != a) (by simpa using Ne.symm hb)
  · rw [read_insert _ _ _ _ hne]
    split
    · rfl
    · rename_i hb
      exact read_filter m b (fun k => k != a) (by simpa using Ne.symm hb)

@[simp] theorem Memory.read_write_same (m : Memory) (a : Nat) (v : Byte) : (m.write a v).read a = v := by
  simp [read_write]

theorem Memory.read_write_other (m : Memory) (a : Nat) (v : Byte) (b : Nat) (h : a ≠ b) :
    (m.write a v).read b = m.read b := by
  simp [read_write, h]

/-- The bound below which `Memory.rising` puts every address. -/
def above (low : Option Nat) (a : Nat) : Prop := ∀ l, low = some l → l < a

theorem Memory.rising_cons (low : Option Nat) (c : Host.Cell) (m : Memory) :
    Memory.rising low (c :: m) = true ↔ above low c.1 ∧ Memory.rising (some c.1) m = true := by
  cases low <;> simp [Memory.rising, above]

theorem Memory.rising_mono (m : Memory) (low high : Option Nat) (h : ∀ a, above high a → above low a)
    (hm : Memory.rising high m = true) : Memory.rising low m = true := by
  cases m with
  | nil => rfl
  | cons c m =>
    rw [rising_cons] at hm ⊢
    exact ⟨h _ hm.1, hm.2⟩

theorem Memory.rising_mem (m : Memory) (low : Option Nat) (hm : Memory.rising low m = true) :
    ∀ c ∈ m, above low c.1 := by
  induction m generalizing low with
  | nil => simp
  | cons c m ih =>
    rw [rising_cons] at hm
    intro d hd
    rcases List.mem_cons.mp hd with rfl | hd
    · exact hm.1
    · intro l hl
      exact (hm.1 l hl).trans (ih _ hm.2 d hd c.1 rfl)

theorem Memory.rising_filter (m : Memory) (low : Option Nat) (p : Host.Cell → Bool) (hm : Memory.rising low m = true) :
    Memory.rising low (m.filter p) = true := by
  induction m generalizing low with
  | nil => rfl
  | cons c m ih =>
    rw [rising_cons] at hm
    rw [List.filter_cons]
    split
    · exact (rising_cons ..).mpr ⟨hm.1, ih _ hm.2⟩
    · refine rising_mono _ _ _ ?_ (ih _ hm.2)
      intro a ha l hl
      exact (hm.1 l hl).trans (ha c.1 rfl)

theorem Memory.rising_insert (m : Memory) (low : Option Nat) (a : Nat) (v : Byte) (hm : Memory.rising low m = true)
    (ha : above low a) (hne : ∀ c ∈ m, c.1 ≠ a) : Memory.rising low (Memory.insert a v m) = true := by
  induction m generalizing low with
  | nil => exact (rising_cons ..).mpr ⟨ha, rfl⟩
  | cons c m ih =>
    rw [rising_cons] at hm
    unfold Memory.insert
    split
    · rename_i h
      refine (rising_cons ..).mpr ⟨ha, (rising_cons ..).mpr ⟨?_, hm.2⟩⟩
      intro l hl
      simp only [Option.some.injEq] at hl
      exact hl ▸ h
    · rename_i h
      have hc : c.1 ≠ a := hne c (by simp)
      refine (rising_cons ..).mpr ⟨hm.1, ih _ hm.2 ?_ fun d hd => hne d (by simp [hd])⟩
      intro l hl
      simp only [Option.some.injEq] at hl
      omega

theorem Memory.rising_append (m k : Memory) (low : Option Nat) (hm : Memory.rising low m = true)
    (hk : Memory.rising low k = true) (h : ∀ c ∈ m, ∀ d ∈ k, c.1 < d.1) : Memory.rising low (m ++ k) = true := by
  induction m generalizing low with
  | nil => exact hk
  | cons c m ih =>
    rw [rising_cons] at hm
    refine (rising_cons ..).mpr ⟨hm.1, ih _ hm.2 ?_ fun d hd => h d (by simp [hd])⟩
    cases k with
    | nil => rfl
    | cons d k =>
      refine (rising_cons ..).mpr ⟨?_, ((rising_cons ..).mp hk).2⟩
      intro l hl
      simp only [Option.some.injEq] at hl
      exact hl ▸ h c (by simp) d (by simp)

theorem Memory.mem_insert (m : Memory) (a : Nat) (v : Byte) (c : Host.Cell) :
    c ∈ Memory.insert a v m ↔ c = (a, v) ∨ c ∈ m := by
  induction m with
  | nil => simp [Memory.insert]
  | cons d m ih =>
    unfold Memory.insert
    split
    · simp
    · simp only [List.mem_cons, ih]
      tauto

/-- The canonical form in the words a proof uses. -/
theorem Memory.wf_iff (m : Memory) :
    m.wf = true ↔ Memory.rising none m = true ∧ ∀ c ∈ m, c.2 ≠ Config.unlistedByte ∧ isStored c.1 = true := by
  simp [Memory.wf, List.all_eq_true]

/-- A write to an address that holds a byte keeps the canonical form. -/
theorem Memory.write_wf (m : Memory) (a : Nat) (v : Byte) (hm : m.wf = true) (ha : isStored a = true) :
    (m.write a v).wf = true := by
  rw [wf_iff] at hm ⊢
  have hr := rising_filter m none (fun c => c.1 != a) hm.1
  have hmem : ∀ c ∈ m.filter (fun c => c.1 != a), c.1 ≠ a ∧ c ∈ m := fun c hc => by
    have := List.mem_filter.mp hc
    exact ⟨by simpa using this.2, this.1⟩
  unfold Memory.write
  split
  · exact ⟨hr, fun c hc => hm.2 c (hmem c hc).2⟩
  · rename_i hv
    refine ⟨rising_insert _ _ _ _ hr (by simp [above]) fun c hc => (hmem c hc).1, ?_⟩
    intro c hc
    rcases (mem_insert ..).mp hc with rfl | hc
    · exact ⟨hv, ha⟩
    · exact hm.2 c (hmem c hc).2

/-- Dropping cells keeps the canonical form: the RAM part and the ROM part of a memory have it. -/
theorem Memory.filter_wf (m : Memory) (p : Host.Cell → Bool) (hm : m.wf = true) : Memory.wf (m.filter p) = true := by
  rw [wf_iff] at hm ⊢
  exact ⟨rising_filter m none p hm.1, fun c hc => hm.2 c (List.mem_filter.mp hc).1⟩

/-- RAM cells before ROM cells: what `LoadState` builds keeps the canonical form. -/
theorem Memory.append_wf (m k : Memory) (hm : m.wf = true) (hk : k.wf = true) (hram : ∀ c ∈ m, isRam c.1 = true)
    (hrom : ∀ c ∈ k, isRom c.1 = true) : Memory.wf (m ++ k) = true := by
  rw [wf_iff] at hm hk ⊢
  refine ⟨rising_append _ _ _ hm.1 hk.1 ?_, ?_⟩
  · intro c hc d hd
    have h1 := hram c hc
    have h2 := hrom d hd
    simp only [isRam, isRom, Bool.or_eq_true, Bool.and_eq_true, decide_eq_true_eq] at h1 h2
    omega
  · intro c hc
    rcases List.mem_append.mp hc with hc | hc
    · exact hm.2 c hc
    · exact hk.2 c hc

theorem Memory.mem_ofBytes (start : Nat) (bs : List Byte) :
    ∀ c ∈ Memory.ofBytes start bs, start ≤ c.1 ∧ c.1 < start + bs.length ∧ c.2 ≠ Config.unlistedByte := by
  induction bs generalizing start with
  | nil => simp [Memory.ofBytes]
  | cons v bs ih =>
    intro c hc
    unfold Memory.ofBytes at hc
    have step : c ∈ Memory.ofBytes (start + 1) bs →
        start ≤ c.1 ∧ c.1 < start + (v :: bs).length ∧ c.2 ≠ Config.unlistedByte := fun h => by
      have := ih (start + 1) c h
      simp only [List.length_cons]
      exact ⟨by omega, by omega, this.2.2⟩
    split at hc
    · exact step hc
    · rename_i hv
      rcases List.mem_cons.mp hc with rfl | hc
      · simp [hv]
      · exact step hc

theorem Memory.rising_ofBytes (start : Nat) (bs : List Byte) (low : Option Nat) (h : ∀ a, start ≤ a → above low a) :
    Memory.rising low (Memory.ofBytes start bs) = true := by
  induction bs generalizing start low with
  | nil => rfl
  | cons v bs ih =>
    unfold Memory.ofBytes
    split
    · exact ih _ _ fun a ha => h a (by omega)
    · refine (rising_cons ..).mpr ⟨h start (Nat.le_refl _), ih _ _ ?_⟩
      intro a ha l hl
      simp only [Option.some.injEq] at hl
      omega

/-- Two memories in canonical form that read alike are equal. -/
theorem Memory.ext_of_rising (m k : Memory) (low : Option Nat) (hm : Memory.rising low m = true)
    (hk : Memory.rising low k = true) (hmv : ∀ c ∈ m, c.2 ≠ Config.unlistedByte)
    (hkv : ∀ c ∈ k, c.2 ≠ Config.unlistedByte) (h : ∀ a, m.read a = k.read a) : m = k := by
  induction m generalizing k low with
  | nil =>
    cases k with
    | nil => rfl
    | cons d k =>
      exact absurd (h d.1).symm (by simpa [read_cons] using hkv d (by simp))
  | cons c m ih =>
    cases k with
    | nil => exact absurd (h c.1) (by simpa [read_cons] using hmv c (by simp))
    | cons d k =>
      rw [rising_cons] at hm hk
      have hm' := rising_mem m _ hm.2
      have hk' := rising_mem k _ hk.2
      have hcd : c.1 = d.1 := by
        rcases Nat.lt_trichotomy c.1 d.1 with hlt | heq | hgt
        · have := h c.1
          rw [read_cons, if_pos rfl, read_cons, if_neg (by omega),
            read_of_forall_ne k c.1 fun e he => by have := hk' e he d.1 rfl; omega] at this
          exact absurd this (hmv c (by simp))
        · exact heq
        · have := h d.1
          rw [read_cons, if_neg (by omega), read_cons, if_pos rfl,
            read_of_forall_ne m d.1 fun e he => by have := hm' e he c.1 rfl; omega] at this
          exact absurd this.symm (hkv d (by simp))
      have hv : c.2 = d.2 := by
        have := h c.1
        rwa [read_cons, if_pos rfl, read_cons, if_pos hcd.symm] at this
      have hrest : m = k := by
        refine ih k (some c.1) hm.2 (hcd ▸ hk.2) (fun e he => hmv e (by simp [he])) (fun e he => hkv e (by simp [he])) ?_
        intro a
        by_cases ha : c.1 = a
        · rw [read_of_forall_ne m a fun e he => by have := hm' e he c.1 rfl; omega,
            read_of_forall_ne k a fun e he => by have := hk' e he d.1 rfl; omega]
        · have := h a
          rwa [read_cons, if_neg ha, read_cons, if_neg (hcd ▸ ha)] at this
      rw [Prod.ext hcd hv, hrest]

theorem Memory.ext_of_wf (m k : Memory) (hm : m.wf = true) (hk : k.wf = true) (h : ∀ a, m.read a = k.read a) : m = k := by
  rw [wf_iff] at hm hk
  exact ext_of_rising m k none hm.1 hk.1 (fun c hc => (hm.2 c hc).1) (fun c hc => (hk.2 c hc).1) h

end Sys2Proof.Machine
end

