-- ==== Sys2Proof/Laws/State.lean ====
section
/-! SUPPORT. What each named update of the state leaves in each field: one lemma per field per update, true by `rfl`. -/

namespace Sys2Proof.Machine

/-! ### `State.charge` -/

@[simp] theorem State.charge_a (s : State) (n : Nat) : (s.charge n).a = s.a := rfl
@[simp] theorem State.charge_x (s : State) (n : Nat) : (s.charge n).x = s.x := rfl
@[simp] theorem State.charge_y (s : State) (n : Nat) : (s.charge n).y = s.y := rfl
@[simp] theorem State.charge_sp (s : State) (n : Nat) : (s.charge n).sp = s.sp := rfl
@[simp] theorem State.charge_pc (s : State) (n : Nat) : (s.charge n).pc = s.pc := rfl
@[simp] theorem State.charge_flags (s : State) (n : Nat) : (s.charge n).flags = s.flags := rfl
@[simp] theorem State.charge_cycles (s : State) (n : Nat) : (s.charge n).cycles = s.cycles + n := rfl
@[simp] theorem State.charge_opcode (s : State) (n : Nat) : (s.charge n).opcode = s.opcode := rfl
@[simp] theorem State.charge_inputs (s : State) (n : Nat) : (s.charge n).inputs = s.inputs := rfl
@[simp] theorem State.charge_hook (s : State) (n : Nat) : (s.charge n).hook = s.hook := rfl
@[simp] theorem State.charge_pia (s : State) (n : Nat) : (s.charge n).pia = s.pia := rfl
@[simp] theorem State.charge_clock (s : State) (n : Nat) : (s.charge n).clock = s.clock := rfl
@[simp] theorem State.charge_mem (s : State) (n : Nat) : (s.charge n).mem = s.mem := rfl
@[simp] theorem State.charge_faulted (s : State) (n : Nat) : (s.charge n).faulted = s.faulted := rfl
@[simp] theorem State.charge_output (s : State) (n : Nat) : (s.charge n).output = s.output := rfl
@[simp] theorem State.charge_hostEvents (s : State) (n : Nat) : (s.charge n).hostEvents = s.hostEvents := rfl
@[simp] theorem State.charge_wiring (s : State) (n : Nat) : (s.charge n).wiring = s.wiring := rfl
@[simp] theorem State.charge_agenda (s : State) (n : Nat) : (s.charge n).agenda = s.agenda := rfl
@[simp] theorem State.charge_quantumLeft (s : State) (n : Nat) : (s.charge n).quantumLeft = s.quantumLeft := rfl
@[simp] theorem State.charge_freeCount (s : State) (n : Nat) : (s.charge n).freeCount = s.freeCount := rfl

/-! ### `State.loadA` -/

@[simp] theorem State.loadA_a (s : State) (v : Byte) : (s.loadA v).a = v := rfl
@[simp] theorem State.loadA_x (s : State) (v : Byte) : (s.loadA v).x = s.x := rfl
@[simp] theorem State.loadA_y (s : State) (v : Byte) : (s.loadA v).y = s.y := rfl
@[simp] theorem State.loadA_sp (s : State) (v : Byte) : (s.loadA v).sp = s.sp := rfl
@[simp] theorem State.loadA_pc (s : State) (v : Byte) : (s.loadA v).pc = s.pc := rfl
@[simp] theorem State.loadA_flags (s : State) (v : Byte) : (s.loadA v).flags = s.flags.setNZ v := rfl
@[simp] theorem State.loadA_cycles (s : State) (v : Byte) : (s.loadA v).cycles = s.cycles := rfl
@[simp] theorem State.loadA_opcode (s : State) (v : Byte) : (s.loadA v).opcode = s.opcode := rfl
@[simp] theorem State.loadA_inputs (s : State) (v : Byte) : (s.loadA v).inputs = s.inputs := rfl
@[simp] theorem State.loadA_hook (s : State) (v : Byte) : (s.loadA v).hook = s.hook := rfl
@[simp] theorem State.loadA_pia (s : State) (v : Byte) : (s.loadA v).pia = s.pia := rfl
@[simp] theorem State.loadA_clock (s : State) (v : Byte) : (s.loadA v).clock = s.clock := rfl
@[simp] theorem State.loadA_mem (s : State) (v : Byte) : (s.loadA v).mem = s.mem := rfl
@[simp] theorem State.loadA_faulted (s : State) (v : Byte) : (s.loadA v).faulted = s.faulted := rfl
@[simp] theorem State.loadA_output (s : State) (v : Byte) : (s.loadA v).output = s.output := rfl
@[simp] theorem State.loadA_hostEvents (s : State) (v : Byte) : (s.loadA v).hostEvents = s.hostEvents := rfl
@[simp] theorem State.loadA_wiring (s : State) (v : Byte) : (s.loadA v).wiring = s.wiring := rfl
@[simp] theorem State.loadA_agenda (s : State) (v : Byte) : (s.loadA v).agenda = s.agenda := rfl
@[simp] theorem State.loadA_quantumLeft (s : State) (v : Byte) : (s.loadA v).quantumLeft = s.quantumLeft := rfl
@[simp] theorem State.loadA_freeCount (s : State) (v : Byte) : (s.loadA v).freeCount = s.freeCount := rfl

/-! ### `State.loadX` -/

@[simp] theorem State.loadX_a (s : State) (v : Byte) : (s.loadX v).a = s.a := rfl
@[simp] theorem State.loadX_x (s : State) (v : Byte) : (s.loadX v).x = v := rfl
@[simp] theorem State.loadX_y (s : State) (v : Byte) : (s.loadX v).y = s.y := rfl
@[simp] theorem State.loadX_sp (s : State) (v : Byte) : (s.loadX v).sp = s.sp := rfl
@[simp] theorem State.loadX_pc (s : State) (v : Byte) : (s.loadX v).pc = s.pc := rfl
@[simp] theorem State.loadX_flags (s : State) (v : Byte) : (s.loadX v).flags = s.flags.setNZ v := rfl
@[simp] theorem State.loadX_cycles (s : State) (v : Byte) : (s.loadX v).cycles = s.cycles := rfl
@[simp] theorem State.loadX_opcode (s : State) (v : Byte) : (s.loadX v).opcode = s.opcode := rfl
@[simp] theorem State.loadX_inputs (s : State) (v : Byte) : (s.loadX v).inputs = s.inputs := rfl
@[simp] theorem State.loadX_hook (s : State) (v : Byte) : (s.loadX v).hook = s.hook := rfl
@[simp] theorem State.loadX_pia (s : State) (v : Byte) : (s.loadX v).pia = s.pia := rfl
@[simp] theorem State.loadX_clock (s : State) (v : Byte) : (s.loadX v).clock = s.clock := rfl
@[simp] theorem State.loadX_mem (s : State) (v : Byte) : (s.loadX v).mem = s.mem := rfl
@[simp] theorem State.loadX_faulted (s : State) (v : Byte) : (s.loadX v).faulted = s.faulted := rfl
@[simp] theorem State.loadX_output (s : State) (v : Byte) : (s.loadX v).output = s.output := rfl
@[simp] theorem State.loadX_hostEvents (s : State) (v : Byte) : (s.loadX v).hostEvents = s.hostEvents := rfl
@[simp] theorem State.loadX_wiring (s : State) (v : Byte) : (s.loadX v).wiring = s.wiring := rfl
@[simp] theorem State.loadX_agenda (s : State) (v : Byte) : (s.loadX v).agenda = s.agenda := rfl
@[simp] theorem State.loadX_quantumLeft (s : State) (v : Byte) : (s.loadX v).quantumLeft = s.quantumLeft := rfl
@[simp] theorem State.loadX_freeCount (s : State) (v : Byte) : (s.loadX v).freeCount = s.freeCount := rfl

/-! ### `State.loadY` -/

@[simp] theorem State.loadY_a (s : State) (v : Byte) : (s.loadY v).a = s.a := rfl
@[simp] theorem State.loadY_x (s : State) (v : Byte) : (s.loadY v).x = s.x := rfl
@[simp] theorem State.loadY_y (s : State) (v : Byte) : (s.loadY v).y = v := rfl
@[simp] theorem State.loadY_sp (s : State) (v : Byte) : (s.loadY v).sp = s.sp := rfl
@[simp] theorem State.loadY_pc (s : State) (v : Byte) : (s.loadY v).pc = s.pc := rfl
@[simp] theorem State.loadY_flags (s : State) (v : Byte) : (s.loadY v).flags = s.flags.setNZ v := rfl
@[simp] theorem State.loadY_cycles (s : State) (v : Byte) : (s.loadY v).cycles = s.cycles := rfl
@[simp] theorem State.loadY_opcode (s : State) (v : Byte) : (s.loadY v).opcode = s.opcode := rfl
@[simp] theorem State.loadY_inputs (s : State) (v : Byte) : (s.loadY v).inputs = s.inputs := rfl
@[simp] theorem State.loadY_hook (s : State) (v : Byte) : (s.loadY v).hook = s.hook := rfl
@[simp] theorem State.loadY_pia (s : State) (v : Byte) : (s.loadY v).pia = s.pia := rfl
@[simp] theorem State.loadY_clock (s : State) (v : Byte) : (s.loadY v).clock = s.clock := rfl
@[simp] theorem State.loadY_mem (s : State) (v : Byte) : (s.loadY v).mem = s.mem := rfl
@[simp] theorem State.loadY_faulted (s : State) (v : Byte) : (s.loadY v).faulted = s.faulted := rfl
@[simp] theorem State.loadY_output (s : State) (v : Byte) : (s.loadY v).output = s.output := rfl
@[simp] theorem State.loadY_hostEvents (s : State) (v : Byte) : (s.loadY v).hostEvents = s.hostEvents := rfl
@[simp] theorem State.loadY_wiring (s : State) (v : Byte) : (s.loadY v).wiring = s.wiring := rfl
@[simp] theorem State.loadY_agenda (s : State) (v : Byte) : (s.loadY v).agenda = s.agenda := rfl
@[simp] theorem State.loadY_quantumLeft (s : State) (v : Byte) : (s.loadY v).quantumLeft = s.quantumLeft := rfl
@[simp] theorem State.loadY_freeCount (s : State) (v : Byte) : (s.loadY v).freeCount = s.freeCount := rfl

/-! ### `State.loadAX` -/

@[simp] theorem State.loadAX_a (s : State) (v : Byte) : (s.loadAX v).a = v := rfl
@[simp] theorem State.loadAX_x (s : State) (v : Byte) : (s.loadAX v).x = v := rfl
@[simp] theorem State.loadAX_y (s : State) (v : Byte) : (s.loadAX v).y = s.y := rfl
@[simp] theorem State.loadAX_sp (s : State) (v : Byte) : (s.loadAX v).sp = s.sp := rfl
@[simp] theorem State.loadAX_pc (s : State) (v : Byte) : (s.loadAX v).pc = s.pc := rfl
@[simp] theorem State.loadAX_flags (s : State) (v : Byte) : (s.loadAX v).flags = s.flags.setNZ v := rfl
@[simp] theorem State.loadAX_cycles (s : State) (v : Byte) : (s.loadAX v).cycles = s.cycles := rfl
@[simp] theorem State.loadAX_opcode (s : State) (v : Byte) : (s.loadAX v).opcode = s.opcode := rfl
@[simp] theorem State.loadAX_inputs (s : State) (v : Byte) : (s.loadAX v).inputs = s.inputs := rfl
@[simp] theorem State.loadAX_hook (s : State) (v : Byte) : (s.loadAX v).hook = s.hook := rfl
@[simp] theorem State.loadAX_pia (s : State) (v : Byte) : (s.loadAX v).pia = s.pia := rfl
@[simp] theorem State.loadAX_clock (s : State) (v : Byte) : (s.loadAX v).clock = s.clock := rfl
@[simp] theorem State.loadAX_mem (s : State) (v : Byte) : (s.loadAX v).mem = s.mem := rfl
@[simp] theorem State.loadAX_faulted (s : State) (v : Byte) : (s.loadAX v).faulted = s.faulted := rfl
@[simp] theorem State.loadAX_output (s : State) (v : Byte) : (s.loadAX v).output = s.output := rfl
@[simp] theorem State.loadAX_hostEvents (s : State) (v : Byte) : (s.loadAX v).hostEvents = s.hostEvents := rfl
@[simp] theorem State.loadAX_wiring (s : State) (v : Byte) : (s.loadAX v).wiring = s.wiring := rfl
@[simp] theorem State.loadAX_agenda (s : State) (v : Byte) : (s.loadAX v).agenda = s.agenda := rfl
@[simp] theorem State.loadAX_quantumLeft (s : State) (v : Byte) : (s.loadAX v).quantumLeft = s.quantumLeft := rfl
@[simp] theorem State.loadAX_freeCount (s : State) (v : Byte) : (s.loadAX v).freeCount = s.freeCount := rfl

/-! ### `State.loadAXS` -/

@[simp] theorem State.loadAXS_a (s : State) (m : Byte) : (s.loadAXS m).a = m &&& s.sp := rfl
@[simp] theorem State.loadAXS_x (s : State) (m : Byte) : (s.loadAXS m).x = m &&& s.sp := rfl
@[simp] theorem State.loadAXS_y (s : State) (m : Byte) : (s.loadAXS m).y = s.y := rfl
@[simp] theorem State.loadAXS_sp (s : State) (m : Byte) : (s.loadAXS m).sp = m &&& s.sp := rfl
@[simp] theorem State.loadAXS_pc (s : State) (m : Byte) : (s.loadAXS m).pc = s.pc := rfl
@[simp] theorem State.loadAXS_flags (s : State) (m : Byte) : (s.loadAXS m).flags = s.flags.setNZ (m &&& s.sp) := rfl
@[simp] theorem State.loadAXS_cycles (s : State) (m : Byte) : (s.loadAXS m).cycles = s.cycles := rfl
@[simp] theorem State.loadAXS_opcode (s : State) (m : Byte) : (s.loadAXS m).opcode = s.opcode := rfl
@[simp] theorem State.loadAXS_inputs (s : State) (m : Byte) : (s.loadAXS m).inputs = s.inputs := rfl
@[simp] theorem State.loadAXS_hook (s : State) (m : Byte) : (s.loadAXS m).hook = s.hook := rfl
@[simp] theorem State.loadAXS_pia (s : State) (m : Byte) : (s.loadAXS m).pia = s.pia := rfl
@[simp] theorem State.loadAXS_clock (s : State) (m : Byte) : (s.loadAXS m).clock = s.clock := rfl
@[simp] theorem State.loadAXS_mem (s : State) (m : Byte) : (s.loadAXS m).mem = s.mem := rfl
@[simp] theorem State.loadAXS_faulted (s : State) (m : Byte) : (s.loadAXS m).faulted = s.faulted := rfl
@[simp] theorem State.loadAXS_output (s : State) (m : Byte) : (s.loadAXS m).output = s.output := rfl
@[simp] theorem State.loadAXS_hostEvents (s : State) (m : Byte) : (s.loadAXS m).hostEvents = s.hostEvents := rfl
@[simp] theorem State.loadAXS_wiring (s : State) (m : Byte) : (s.loadAXS m).wiring = s.wiring := rfl
@[simp] theorem State.loadAXS_agenda (s : State) (m : Byte) : (s.loadAXS m).agenda = s.agenda := rfl
@[simp] theorem State.loadAXS_quantumLeft (s : State) (m : Byte) : (s.loadAXS m).quantumLeft = s.quantumLeft := rfl
@[simp] theorem State.loadAXS_freeCount (s : State) (m : Byte) : (s.loadAXS m).freeCount = s.freeCount := rfl

/-! ### `State.setAFlags` -/

@[simp] theorem State.setAFlags_a (s : State) (r : Byte × Flags) : (s.setAFlags r).a = r.1 := rfl
@[simp] theorem State.setAFlags_x (s : State) (r : Byte × Flags) : (s.setAFlags r).x = s.x := rfl
@[simp] theorem State.setAFlags_y (s : State) (r : Byte × Flags) : (s.setAFlags r).y = s.y := rfl
@[simp] theorem State.setAFlags_sp (s : State) (r : Byte × Flags) : (s.setAFlags r).sp = s.sp := rfl
@[simp] theorem State.setAFlags_pc (s : State) (r : Byte × Flags) : (s.setAFlags r).pc = s.pc := rfl
@[simp] theorem State.setAFlags_flags (s : State) (r : Byte × Flags) : (s.setAFlags r).flags = r.2 := rfl
@[simp] theorem State.setAFlags_cycles (s : State) (r : Byte × Flags) : (s.setAFlags r).cycles = s.cycles := rfl
@[simp] theorem State.setAFlags_opcode (s : State) (r : Byte × Flags) : (s.setAFlags r).opcode = s.opcode := rfl
@[simp] theorem State.setAFlags_inputs (s : State) (r : Byte × Flags) : (s.setAFlags r).inputs = s.inputs := rfl
@[simp] theorem State.setAFlags_hook (s : State) (r : Byte × Flags) : (s.setAFlags r).hook = s.hook := rfl
@[simp] theorem State.setAFlags_pia (s : State) (r : Byte × Flags) : (s.setAFlags r).pia = s.pia := rfl
@[simp] theorem State.setAFlags_clock (s : State) (r : Byte × Flags) : (s.setAFlags r).clock = s.clock := rfl
@[simp] theorem State.setAFlags_mem (s : State) (r : Byte × Flags) : (s.setAFlags r).mem = s.mem := rfl
@[simp] theorem State.setAFlags_faulted (s : State) (r : Byte × Flags) : (s.setAFlags r).faulted = s.faulted := rfl
@[simp] theorem State.setAFlags_output (s : State) (r : Byte × Flags) : (s.setAFlags r).output = s.output := rfl
@[simp] theorem State.setAFlags_hostEvents (s : State) (r : Byte × Flags) :
    (s.setAFlags r).hostEvents = s.hostEvents := rfl
@[simp] theorem State.setAFlags_wiring (s : State) (r : Byte × Flags) : (s.setAFlags r).wiring = s.wiring := rfl
@[simp] theorem State.setAFlags_agenda (s : State) (r : Byte × Flags) : (s.setAFlags r).agenda = s.agenda := rfl
@[simp] theorem State.setAFlags_quantumLeft (s : State) (r : Byte × Flags) :
    (s.setAFlags r).quantumLeft = s.quantumLeft := rfl
@[simp] theorem State.setAFlags_freeCount (s : State) (r : Byte × Flags) :
    (s.setAFlags r).freeCount = s.freeCount := rfl

/-! ### `State.adc` -/

@[simp] theorem State.adc_a (s : State) (m : Byte) : (s.adc m).a = (adcResult s.a m s.flags).1 := rfl
@[simp] theorem State.adc_x (s : State) (m : Byte) : (s.adc m).x = s.x := rfl
@[simp] theorem State.adc_y (s : State) (m : Byte) : (s.adc m).y = s.y := rfl
@[simp] theorem State.adc_sp (s : State) (m : Byte) : (s.adc m).sp = s.sp := rfl
@[simp] theorem State.adc_pc (s : State) (m : Byte) : (s.adc m).pc = s.pc := rfl
@[simp] theorem State.adc_flags (s : State) (m : Byte) : (s.adc m).flags = (adcResult s.a m s.flags).2 := rfl
@[simp] theorem State.adc_cycles (s : State) (m : Byte) : (s.adc m).cycles = s.cycles := rfl
@[simp] theorem State.adc_opcode (s : State) (m : Byte) : (s.adc m).opcode = s.opcode := rfl
@[simp] theorem State.adc_inputs (s : State) (m : Byte) : (s.adc m).inputs = s.inputs := rfl
@[simp] theorem State.adc_hook (s : State) (m : Byte) : (s.adc m).hook = s.hook := rfl
@[simp] theorem State.adc_pia (s : State) (m : Byte) : (s.adc m).pia = s.pia := rfl
@[simp] theorem State.adc_clock (s : State) (m : Byte) : (s.adc m).clock = s.clock := rfl
@[simp] theorem State.adc_mem (s : State) (m : Byte) : (s.adc m).mem = s.mem := rfl
@[simp] theorem State.adc_faulted (s : State) (m : Byte) : (s.adc m).faulted = s.faulted := rfl
@[simp] theorem State.adc_output (s : State) (m : Byte) : (s.adc m).output = s.output := rfl
@[simp] theorem State.adc_hostEvents (s : State) (m : Byte) : (s.adc m).hostEvents = s.hostEvents := rfl
@[simp] theorem State.adc_wiring (s : State) (m : Byte) : (s.adc m).wiring = s.wiring := rfl
@[simp] theorem State.adc_agenda (s : State) (m : Byte) : (s.adc m).agenda = s.agenda := rfl
@[simp] theorem State.adc_quantumLeft (s : State) (m : Byte) : (s.adc m).quantumLeft = s.quantumLeft := rfl
@[simp] theorem State.adc_freeCount (s : State) (m : Byte) : (s.adc m).freeCount = s.freeCount := rfl

/-! ### `State.sbc` -/

@[simp] theorem State.sbc_a (s : State) (m : Byte) : (s.sbc m).a = (sbcResult s.a m s.flags).1 := rfl
@[simp] theorem State.sbc_x (s : State) (m : Byte) : (s.sbc m).x = s.x := rfl
@[simp] theorem State.sbc_y (s : State) (m : Byte) : (s.sbc m).y = s.y := rfl
@[simp] theorem State.sbc_sp (s : State) (m : Byte) : (s.sbc m).sp = s.sp := rfl
@[simp] theorem State.sbc_pc (s : State) (m : Byte) : (s.sbc m).pc = s.pc := rfl
@[simp] theorem State.sbc_flags (s : State) (m : Byte) : (s.sbc m).flags = (sbcResult s.a m s.flags).2 := rfl
@[simp] theorem State.sbc_cycles (s : State) (m : Byte) : (s.sbc m).cycles = s.cycles := rfl
@[simp] theorem State.sbc_opcode (s : State) (m : Byte) : (s.sbc m).opcode = s.opcode := rfl
@[simp] theorem State.sbc_inputs (s : State) (m : Byte) : (s.sbc m).inputs = s.inputs := rfl
@[simp] theorem State.sbc_hook (s : State) (m : Byte) : (s.sbc m).hook = s.hook := rfl
@[simp] theorem State.sbc_pia (s : State) (m : Byte) : (s.sbc m).pia = s.pia := rfl
@[simp] theorem State.sbc_clock (s : State) (m : Byte) : (s.sbc m).clock = s.clock := rfl
@[simp] theorem State.sbc_mem (s : State) (m : Byte) : (s.sbc m).mem = s.mem := rfl
@[simp] theorem State.sbc_faulted (s : State) (m : Byte) : (s.sbc m).faulted = s.faulted := rfl
@[simp] theorem State.sbc_output (s : State) (m : Byte) : (s.sbc m).output = s.output := rfl
@[simp] theorem State.sbc_hostEvents (s : State) (m : Byte) : (s.sbc m).hostEvents = s.hostEvents := rfl
@[simp] theorem State.sbc_wiring (s : State) (m : Byte) : (s.sbc m).wiring = s.wiring := rfl
@[simp] theorem State.sbc_agenda (s : State) (m : Byte) : (s.sbc m).agenda = s.agenda := rfl
@[simp] theorem State.sbc_quantumLeft (s : State) (m : Byte) : (s.sbc m).quantumLeft = s.quantumLeft := rfl
@[simp] theorem State.sbc_freeCount (s : State) (m : Byte) : (s.sbc m).freeCount = s.freeCount := rfl

/-! ### `State.andA` -/

@[simp] theorem State.andA_a (s : State) (m : Byte) : (s.andA m).a = s.a &&& m := rfl
@[simp] theorem State.andA_x (s : State) (m : Byte) : (s.andA m).x = s.x := rfl
@[simp] theorem State.andA_y (s : State) (m : Byte) : (s.andA m).y = s.y := rfl
@[simp] theorem State.andA_sp (s : State) (m : Byte) : (s.andA m).sp = s.sp := rfl
@[simp] theorem State.andA_pc (s : State) (m : Byte) : (s.andA m).pc = s.pc := rfl
@[simp] theorem State.andA_flags (s : State) (m : Byte) : (s.andA m).flags = s.flags.setNZ (s.a &&& m) := rfl
@[simp] theorem State.andA_cycles (s : State) (m : Byte) : (s.andA m).cycles = s.cycles := rfl
@[simp] theorem State.andA_opcode (s : State) (m : Byte) : (s.andA m).opcode = s.opcode := rfl
@[simp] theorem State.andA_inputs (s : State) (m : Byte) : (s.andA m).inputs = s.inputs := rfl
@[simp] theorem State.andA_hook (s : State) (m : Byte) : (s.andA m).hook = s.hook := rfl
@[simp] theorem State.andA_pia (s : State) (m : Byte) : (s.andA m).pia = s.pia := rfl
@[simp] theorem State.andA_clock (s : State) (m : Byte) : (s.andA m).clock = s.clock := rfl
@[simp] theorem State.andA_mem (s : State) (m : Byte) : (s.andA m).mem = s.mem := rfl
@[simp] theorem State.andA_faulted (s : State) (m : Byte) : (s.andA m).faulted = s.faulted := rfl
@[simp] theorem State.andA_output (s : State) (m : Byte) : (s.andA m).output = s.output := rfl
@[simp] theorem State.andA_hostEvents (s : State) (m : Byte) : (s.andA m).hostEvents = s.hostEvents := rfl
@[simp] theorem State.andA_wiring (s : State) (m : Byte) : (s.andA m).wiring = s.wiring := rfl
@[simp] theorem State.andA_agenda (s : State) (m : Byte) : (s.andA m).agenda = s.agenda := rfl
@[simp] theorem State.andA_quantumLeft (s : State) (m : Byte) : (s.andA m).quantumLeft = s.quantumLeft := rfl
@[simp] theorem State.andA_freeCount (s : State) (m : Byte) : (s.andA m).freeCount = s.freeCount := rfl

/-! ### `State.orA` -/

@[simp] theorem State.orA_a (s : State) (m : Byte) : (s.orA m).a = s.a ||| m := rfl
@[simp] theorem State.orA_x (s : State) (m : Byte) : (s.orA m).x = s.x := rfl
@[simp] theorem State.orA_y (s : State) (m : Byte) : (s.orA m).y = s.y := rfl
@[simp] theorem State.orA_sp (s : State) (m : Byte) : (s.orA m).sp = s.sp := rfl
@[simp] theorem State.orA_pc (s : State) (m : Byte) : (s.orA m).pc = s.pc := rfl
@[simp] theorem State.orA_flags (s : State) (m : Byte) : (s.orA m).flags = s.flags.setNZ (s.a ||| m) := rfl
@[simp] theorem State.orA_cycles (s : State) (m : Byte) : (s.orA m).cycles = s.cycles := rfl
@[simp] theorem State.orA_opcode (s : State) (m : Byte) : (s.orA m).opcode = s.opcode := rfl
@[simp] theorem State.orA_inputs (s : State) (m : Byte) : (s.orA m).inputs = s.inputs := rfl
@[simp] theorem State.orA_hook (s : State) (m : Byte) : (s.orA m).hook = s.hook := rfl
@[simp] theorem State.orA_pia (s : State) (m : Byte) : (s.orA m).pia = s.pia := rfl
@[simp] theorem State.orA_clock (s : State) (m : Byte) : (s.orA m).clock = s.clock := rfl
@[simp] theorem State.orA_mem (s : State) (m : Byte) : (s.orA m).mem = s.mem := rfl
@[simp] theorem State.orA_faulted (s : State) (m : Byte) : (s.orA m).faulted = s.faulted := rfl
@[simp] theorem State.orA_output (s : State) (m : Byte) : (s.orA m).output = s.output := rfl
@[simp] theorem State.orA_hostEvents (s : State) (m : Byte) : (s.orA m).hostEvents = s.hostEvents := rfl
@[simp] theorem State.orA_wiring (s : State) (m : Byte) : (s.orA m).wiring = s.wiring := rfl
@[simp] theorem State.orA_agenda (s : State) (m : Byte) : (s.orA m).agenda = s.agenda := rfl
@[simp] theorem State.orA_quantumLeft (s : State) (m : Byte) : (s.orA m).quantumLeft = s.quantumLeft := rfl
@[simp] theorem State.orA_freeCount (s : State) (m : Byte) : (s.orA m).freeCount = s.freeCount := rfl

/-! ### `State.eorA` -/

@[simp] theorem State.eorA_a (s : State) (m : Byte) : (s.eorA m).a = s.a ^^^ m := rfl
@[simp] theorem State.eorA_x (s : State) (m : Byte) : (s.eorA m).x = s.x := rfl
@[simp] theorem State.eorA_y (s : State) (m : Byte) : (s.eorA m).y = s.y := rfl
@[simp] theorem State.eorA_sp (s : State) (m : Byte) : (s.eorA m).sp = s.sp := rfl
@[simp] theorem State.eorA_pc (s : State) (m : Byte) : (s.eorA m).pc = s.pc := rfl
@[simp] theorem State.eorA_flags (s : State) (m : Byte) : (s.eorA m).flags = s.flags.setNZ (s.a ^^^ m) := rfl
@[simp] theorem State.eorA_cycles (s : State) (m : Byte) : (s.eorA m).cycles = s.cycles := rfl
@[simp] theorem State.eorA_opcode (s : State) (m : Byte) : (s.eorA m).opcode = s.opcode := rfl
@[simp] theorem State.eorA_inputs (s : State) (m : Byte) : (s.eorA m).inputs = s.inputs := rfl
@[simp] theorem State.eorA_hook (s : State) (m : Byte) : (s.eorA m).hook = s.hook := rfl
@[simp] theorem State.eorA_pia (s : State) (m : Byte) : (s.eorA m).pia = s.pia := rfl
@[simp] theorem State.eorA_clock (s : State) (m : Byte) : (s.eorA m).clock = s.clock := rfl
@[simp] theorem State.eorA_mem (s : State) (m : Byte) : (s.eorA m).mem = s.mem := rfl
@[simp] theorem State.eorA_faulted (s : State) (m : Byte) : (s.eorA m).faulted = s.faulted := rfl
@[simp] theorem State.eorA_output (s : State) (m : Byte) : (s.eorA m).output = s.output := rfl
@[simp] theorem State.eorA_hostEvents (s : State) (m : Byte) : (s.eorA m).hostEvents = s.hostEvents := rfl
@[simp] theorem State.eorA_wiring (s : State) (m : Byte) : (s.eorA m).wiring = s.wiring := rfl
@[simp] theorem State.eorA_agenda (s : State) (m : Byte) : (s.eorA m).agenda = s.agenda := rfl
@[simp] theorem State.eorA_quantumLeft (s : State) (m : Byte) : (s.eorA m).quantumLeft = s.quantumLeft := rfl
@[simp] theorem State.eorA_freeCount (s : State) (m : Byte) : (s.eorA m).freeCount = s.freeCount := rfl

/-! ### `State.bitTest` -/

@[simp] theorem State.bitTest_a (s : State) (m : Byte) : (s.bitTest m).a = s.a := rfl
@[simp] theorem State.bitTest_x (s : State) (m : Byte) : (s.bitTest m).x = s.x := rfl
@[simp] theorem State.bitTest_y (s : State) (m : Byte) : (s.bitTest m).y = s.y := rfl
@[simp] theorem State.bitTest_sp (s : State) (m : Byte) : (s.bitTest m).sp = s.sp := rfl
@[simp] theorem State.bitTest_pc (s : State) (m : Byte) : (s.bitTest m).pc = s.pc := rfl
@[simp] theorem State.bitTest_flags (s : State) (m : Byte) : (s.bitTest m).flags = bitFlags s.a m s.flags := rfl
@[simp] theorem State.bitTest_cycles (s : State) (m : Byte) : (s.bitTest m).cycles = s.cycles := rfl
@[simp] theorem State.bitTest_opcode (s : State) (m : Byte) : (s.bitTest m).opcode = s.opcode := rfl
@[simp] theorem State.bitTest_inputs (s : State) (m : Byte) : (s.bitTest m).inputs = s.inputs := rfl
@[simp] theorem State.bitTest_hook (s : State) (m : Byte) : (s.bitTest m).hook = s.hook := rfl
@[simp] theorem State.bitTest_pia (s : State) (m : Byte) : (s.bitTest m).pia = s.pia := rfl
@[simp] theorem State.bitTest_clock (s : State) (m : Byte) : (s.bitTest m).clock = s.clock := rfl
@[simp] theorem State.bitTest_mem (s : State) (m : Byte) : (s.bitTest m).mem = s.mem := rfl
@[simp] theorem State.bitTest_faulted (s : State) (m : Byte) : (s.bitTest m).faulted = s.faulted := rfl
@[simp] theorem State.bitTest_output (s : State) (m : Byte) : (s.bitTest m).output = s.output := rfl
@[simp] theorem State.bitTest_hostEvents (s : State) (m : Byte) : (s.bitTest m).hostEvents = s.hostEvents := rfl
@[simp] theorem State.bitTest_wiring (s : State) (m : Byte) : (s.bitTest m).wiring = s.wiring := rfl
@[simp] theorem State.bitTest_agenda (s : State) (m : Byte) : (s.bitTest m).agenda = s.agenda := rfl
@[simp] theorem State.bitTest_quantumLeft (s : State) (m : Byte) : (s.bitTest m).quantumLeft = s.quantumLeft := rfl
@[simp] theorem State.bitTest_freeCount (s : State) (m : Byte) : (s.bitTest m).freeCount = s.freeCount := rfl

/-! ### `State.cmpA` -/

@[simp] theorem State.cmpA_a (s : State) (m : Byte) : (s.cmpA m).a = s.a := rfl
@[simp] theorem State.cmpA_x (s : State) (m : Byte) : (s.cmpA m).x = s.x := rfl
@[simp] theorem State.cmpA_y (s : State) (m : Byte) : (s.cmpA m).y = s.y := rfl
@[simp] theorem State.cmpA_sp (s : State) (m : Byte) : (s.cmpA m).sp = s.sp := rfl
@[simp] theorem State.cmpA_pc (s : State) (m : Byte) : (s.cmpA m).pc = s.pc := rfl
@[simp] theorem State.cmpA_flags (s : State) (m : Byte) : (s.cmpA m).flags = compareFlags s.a m s.flags := rfl
@[simp] theorem State.cmpA_cycles (s : State) (m : Byte) : (s.cmpA m).cycles = s.cycles := rfl
@[simp] theorem State.cmpA_opcode (s : State) (m : Byte) : (s.cmpA m).opcode = s.opcode := rfl
@[simp] theorem State.cmpA_inputs (s : State) (m : Byte) : (s.cmpA m).inputs = s.inputs := rfl
@[simp] theorem State.cmpA_hook (s : State) (m : Byte) : (s.cmpA m).hook = s.hook := rfl
@[simp] theorem State.cmpA_pia (s : State) (m : Byte) : (s.cmpA m).pia = s.pia := rfl
@[simp] theorem State.cmpA_clock (s : State) (m : Byte) : (s.cmpA m).clock = s.clock := rfl
@[simp] theorem State.cmpA_mem (s : State) (m : Byte) : (s.cmpA m).mem = s.mem := rfl
@[simp] theorem State.cmpA_faulted (s : State) (m : Byte) : (s.cmpA m).faulted = s.faulted := rfl
@[simp] theorem State.cmpA_output (s : State) (m : Byte) : (s.cmpA m).output = s.output := rfl
@[simp] theorem State.cmpA_hostEvents (s : State) (m : Byte) : (s.cmpA m).hostEvents = s.hostEvents := rfl
@[simp] theorem State.cmpA_wiring (s : State) (m : Byte) : (s.cmpA m).wiring = s.wiring := rfl
@[simp] theorem State.cmpA_agenda (s : State) (m : Byte) : (s.cmpA m).agenda = s.agenda := rfl
@[simp] theorem State.cmpA_quantumLeft (s : State) (m : Byte) : (s.cmpA m).quantumLeft = s.quantumLeft := rfl
@[simp] theorem State.cmpA_freeCount (s : State) (m : Byte) : (s.cmpA m).freeCount = s.freeCount := rfl

/-! ### `State.cmpX` -/

@[simp] theorem State.cmpX_a (s : State) (m : Byte) : (s.cmpX m).a = s.a := rfl
@[simp] theorem State.cmpX_x (s : State) (m : Byte) : (s.cmpX m).x = s.x := rfl
@[simp] theorem State.cmpX_y (s : State) (m : Byte) : (s.cmpX m).y = s.y := rfl
@[simp] theorem State.cmpX_sp (s : State) (m : Byte) : (s.cmpX m).sp = s.sp := rfl
@[simp] theorem State.cmpX_pc (s : State) (m : Byte) : (s.cmpX m).pc = s.pc := rfl
@[simp] theorem State.cmpX_flags (s : State) (m : Byte) : (s.cmpX m).flags = compareFlags s.x m s.flags := rfl
@[simp] theorem State.cmpX_cycles (s : State) (m : Byte) : (s.cmpX m).cycles = s.cycles := rfl
@[simp] theorem State.cmpX_opcode (s : State) (m : Byte) : (s.cmpX m).opcode = s.opcode := rfl
@[simp] theorem State.cmpX_inputs (s : State) (m : Byte) : (s.cmpX m).inputs = s.inputs := rfl
@[simp] theorem State.cmpX_hook (s : State) (m : Byte) : (s.cmpX m).hook = s.hook := rfl
@[simp] theorem State.cmpX_pia (s : State) (m : Byte) : (s.cmpX m).pia = s.pia := rfl
@[simp] theorem State.cmpX_clock (s : State) (m : Byte) : (s.cmpX m).clock = s.clock := rfl
@[simp] theorem State.cmpX_mem (s : State) (m : Byte) : (s.cmpX m).mem = s.mem := rfl
@[simp] theorem State.cmpX_faulted (s : State) (m : Byte) : (s.cmpX m).faulted = s.faulted := rfl
@[simp] theorem State.cmpX_output (s : State) (m : Byte) : (s.cmpX m).output = s.output := rfl
@[simp] theorem State.cmpX_hostEvents (s : State) (m : Byte) : (s.cmpX m).hostEvents = s.hostEvents := rfl
@[simp] theorem State.cmpX_wiring (s : State) (m : Byte) : (s.cmpX m).wiring = s.wiring := rfl
@[simp] theorem State.cmpX_agenda (s : State) (m : Byte) : (s.cmpX m).agenda = s.agenda := rfl
@[simp] theorem State.cmpX_quantumLeft (s : State) (m : Byte) : (s.cmpX m).quantumLeft = s.quantumLeft := rfl
@[simp] theorem State.cmpX_freeCount (s : State) (m : Byte) : (s.cmpX m).freeCount = s.freeCount := rfl

/-! ### `State.cmpY` -/

@[simp] theorem State.cmpY_a (s : State) (m : Byte) : (s.cmpY m).a = s.a := rfl
@[simp] theorem State.cmpY_x (s : State) (m : Byte) : (s.cmpY m).x = s.x := rfl
@[simp] theorem State.cmpY_y (s : State) (m : Byte) : (s.cmpY m).y = s.y := rfl
@[simp] theorem State.cmpY_sp (s : State) (m : Byte) : (s.cmpY m).sp = s.sp := rfl
@[simp] theorem State.cmpY_pc (s : State) (m : Byte) : (s.cmpY m).pc = s.pc := rfl
@[simp] theorem State.cmpY_flags (s : State) (m : Byte) : (s.cmpY m).flags = compareFlags s.y m s.flags := rfl
@[simp] theorem State.cmpY_cycles (s : State) (m : Byte) : (s.cmpY m).cycles = s.cycles := rfl
@[simp] theorem State.cmpY_opcode (s : State) (m : Byte) : (s.cmpY m).opcode = s.opcode := rfl
@[simp] theorem State.cmpY_inputs (s : State) (m : Byte) : (s.cmpY m).inputs = s.inputs := rfl
@[simp] theorem State.cmpY_hook (s : State) (m : Byte) : (s.cmpY m).hook = s.hook := rfl
@[simp] theorem State.cmpY_pia (s : State) (m : Byte) : (s.cmpY m).pia = s.pia := rfl
@[simp] theorem State.cmpY_clock (s : State) (m : Byte) : (s.cmpY m).clock = s.clock := rfl
@[simp] theorem State.cmpY_mem (s : State) (m : Byte) : (s.cmpY m).mem = s.mem := rfl
@[simp] theorem State.cmpY_faulted (s : State) (m : Byte) : (s.cmpY m).faulted = s.faulted := rfl
@[simp] theorem State.cmpY_output (s : State) (m : Byte) : (s.cmpY m).output = s.output := rfl
@[simp] theorem State.cmpY_hostEvents (s : State) (m : Byte) : (s.cmpY m).hostEvents = s.hostEvents := rfl
@[simp] theorem State.cmpY_wiring (s : State) (m : Byte) : (s.cmpY m).wiring = s.wiring := rfl
@[simp] theorem State.cmpY_agenda (s : State) (m : Byte) : (s.cmpY m).agenda = s.agenda := rfl
@[simp] theorem State.cmpY_quantumLeft (s : State) (m : Byte) : (s.cmpY m).quantumLeft = s.quantumLeft := rfl
@[simp] theorem State.cmpY_freeCount (s : State) (m : Byte) : (s.cmpY m).freeCount = s.freeCount := rfl

/-! ### `State.anc` -/

@[simp] theorem State.anc_a (s : State) (m : Byte) : (s.anc m).a = s.a &&& m := rfl
@[simp] theorem State.anc_x (s : State) (m : Byte) : (s.anc m).x = s.x := rfl
@[simp] theorem State.anc_y (s : State) (m : Byte) : (s.anc m).y = s.y := rfl
@[simp] theorem State.anc_sp (s : State) (m : Byte) : (s.anc m).sp = s.sp := rfl
@[simp] theorem State.anc_pc (s : State) (m : Byte) : (s.anc m).pc = s.pc := rfl
@[simp] theorem State.anc_flags (s : State) (m : Byte) :
    (s.anc m).flags = { s.flags.setNZ (s.a &&& m) with c := (s.a &&& m).getLsbD 7 } := rfl
@[simp] theorem State.anc_cycles (s : State) (m : Byte) : (s.anc m).cycles = s.cycles := rfl
@[simp] theorem State.anc_opcode (s : State) (m : Byte) : (s.anc m).opcode = s.opcode := rfl
@[simp] theorem State.anc_inputs (s : State) (m : Byte) : (s.anc m).inputs = s.inputs := rfl
@[simp] theorem State.anc_hook (s : State) (m : Byte) : (s.anc m).hook = s.hook := rfl
@[simp] theorem State.anc_pia (s : State) (m : Byte) : (s.anc m).pia = s.pia := rfl
@[simp] theorem State.anc_clock (s : State) (m : Byte) : (s.anc m).clock = s.clock := rfl
@[simp] theorem State.anc_mem (s : State) (m : Byte) : (s.anc m).mem = s.mem := rfl
@[simp] theorem State.anc_faulted (s : State) (m : Byte) : (s.anc m).faulted = s.faulted := rfl
@[simp] theorem State.anc_output (s : State) (m : Byte) : (s.anc m).output = s.output := rfl
@[simp] theorem State.anc_hostEvents (s : State) (m : Byte) : (s.anc m).hostEvents = s.hostEvents := rfl
@[simp] theorem State.anc_wiring (s : State) (m : Byte) : (s.anc m).wiring = s.wiring := rfl
@[simp] theorem State.anc_agenda (s : State) (m : Byte) : (s.anc m).agenda = s.agenda := rfl
@[simp] theorem State.anc_quantumLeft (s : State) (m : Byte) : (s.anc m).quantumLeft = s.quantumLeft := rfl
@[simp] theorem State.anc_freeCount (s : State) (m : Byte) : (s.anc m).freeCount = s.freeCount := rfl

/-! ### `State.alr` -/

@[simp] theorem State.alr_a (s : State) (m : Byte) : (s.alr m).a = (alrResult s.a m s.flags).1 := rfl
@[simp] theorem State.alr_x (s : State) (m : Byte) : (s.alr m).x = s.x := rfl
@[simp] theorem State.alr_y (s : State) (m : Byte) : (s.alr m).y = s.y := rfl
@[simp] theorem State.alr_sp (s : State) (m : Byte) : (s.alr m).sp = s.sp := rfl
@[simp] theorem State.alr_pc (s : State) (m : Byte) : (s.alr m).pc = s.pc := rfl
@[simp] theorem State.alr_flags (s : State) (m : Byte) : (s.alr m).flags = (alrResult s.a m s.flags).2 := rfl
@[simp] theorem State.alr_cycles (s : State) (m : Byte) : (s.alr m).cycles = s.cycles := rfl
@[simp] theorem State.alr_opcode (s : State) (m : Byte) : (s.alr m).opcode = s.opcode := rfl
@[simp] theorem State.alr_inputs (s : State) (m : Byte) : (s.alr m).inputs = s.inputs := rfl
@[simp] theorem State.alr_hook (s : State) (m : Byte) : (s.alr m).hook = s.hook := rfl
@[simp] theorem State.alr_pia (s : State) (m : Byte) : (s.alr m).pia = s.pia := rfl
@[simp] theorem State.alr_clock (s : State) (m : Byte) : (s.alr m).clock = s.clock := rfl
@[simp] theorem State.alr_mem (s : State) (m : Byte) : (s.alr m).mem = s.mem := rfl
@[simp] theorem State.alr_faulted (s : State) (m : Byte) : (s.alr m).faulted = s.faulted := rfl
@[simp] theorem State.alr_output (s : State) (m : Byte) : (s.alr m).output = s.output := rfl
@[simp] theorem State.alr_hostEvents (s : State) (m : Byte) : (s.alr m).hostEvents = s.hostEvents := rfl
@[simp] theorem State.alr_wiring (s : State) (m : Byte) : (s.alr m).wiring = s.wiring := rfl
@[simp] theorem State.alr_agenda (s : State) (m : Byte) : (s.alr m).agenda = s.agenda := rfl
@[simp] theorem State.alr_quantumLeft (s : State) (m : Byte) : (s.alr m).quantumLeft = s.quantumLeft := rfl
@[simp] theorem State.alr_freeCount (s : State) (m : Byte) : (s.alr m).freeCount = s.freeCount := rfl

/-! ### `State.arr` -/

@[simp] theorem State.arr_a (s : State) (m : Byte) : (s.arr m).a = (arrResult s.a m s.flags).1 := rfl
@[simp] theorem State.arr_x (s : State) (m : Byte) : (s.arr m).x = s.x := rfl
@[simp] theorem State.arr_y (s : State) (m : Byte) : (s.arr m).y = s.y := rfl
@[simp] theorem State.arr_sp (s : State) (m : Byte) : (s.arr m).sp = s.sp := rfl
@[simp] theorem State.arr_pc (s : State) (m : Byte) : (s.arr m).pc = s.pc := rfl
@[simp] theorem State.arr_flags (s : State) (m : Byte) : (s.arr m).flags = (arrResult s.a m s.flags).2 := rfl
@[simp] theorem State.arr_cycles (s : State) (m : Byte) : (s.arr m).cycles = s.cycles := rfl
@[simp] theorem State.arr_opcode (s : State) (m : Byte) : (s.arr m).opcode = s.opcode := rfl
@[simp] theorem State.arr_inputs (s : State) (m : Byte) : (s.arr m).inputs = s.inputs := rfl
@[simp] theorem State.arr_hook (s : State) (m : Byte) : (s.arr m).hook = s.hook := rfl
@[simp] theorem State.arr_pia (s : State) (m : Byte) : (s.arr m).pia = s.pia := rfl
@[simp] theorem State.arr_clock (s : State) (m : Byte) : (s.arr m).clock = s.clock := rfl
@[simp] theorem State.arr_mem (s : State) (m : Byte) : (s.arr m).mem = s.mem := rfl
@[simp] theorem State.arr_faulted (s : State) (m : Byte) : (s.arr m).faulted = s.faulted := rfl
@[simp] theorem State.arr_output (s : State) (m : Byte) : (s.arr m).output = s.output := rfl
@[simp] theorem State.arr_hostEvents (s : State) (m : Byte) : (s.arr m).hostEvents = s.hostEvents := rfl
@[simp] theorem State.arr_wiring (s : State) (m : Byte) : (s.arr m).wiring = s.wiring := rfl
@[simp] theorem State.arr_agenda (s : State) (m : Byte) : (s.arr m).agenda = s.agenda := rfl
@[simp] theorem State.arr_quantumLeft (s : State) (m : Byte) : (s.arr m).quantumLeft = s.quantumLeft := rfl
@[simp] theorem State.arr_freeCount (s : State) (m : Byte) : (s.arr m).freeCount = s.freeCount := rfl

/-! ### `State.sbx` -/

@[simp] theorem State.sbx_a (s : State) (m : Byte) : (s.sbx m).a = s.a := rfl
@[simp] theorem State.sbx_x (s : State) (m : Byte) : (s.sbx m).x = (sbxResult s.a s.x m s.flags).1 := rfl
@[simp] theorem State.sbx_y (s : State) (m : Byte) : (s.sbx m).y = s.y := rfl
@[simp] theorem State.sbx_sp (s : State) (m : Byte) : (s.sbx m).sp = s.sp := rfl
@[simp] theorem State.sbx_pc (s : State) (m : Byte) : (s.sbx m).pc = s.pc := rfl
@[simp] theorem State.sbx_flags (s : State) (m : Byte) : (s.sbx m).flags = (sbxResult s.a s.x m s.flags).2 := rfl
@[simp] theorem State.sbx_cycles (s : State) (m : Byte) : (s.sbx m).cycles = s.cycles := rfl
@[simp] theorem State.sbx_opcode (s : State) (m : Byte) : (s.sbx m).opcode = s.opcode := rfl
@[simp] theorem State.sbx_inputs (s : State) (m : Byte) : (s.sbx m).inputs = s.inputs := rfl
@[simp] theorem State.sbx_hook (s : State) (m : Byte) : (s.sbx m).hook = s.hook := rfl
@[simp] theorem State.sbx_pia (s : State) (m : Byte) : (s.sbx m).pia = s.pia := rfl
@[simp] theorem State.sbx_clock (s : State) (m : Byte) : (s.sbx m).clock = s.clock := rfl
@[simp] theorem State.sbx_mem (s : State) (m : Byte) : (s.sbx m).mem = s.mem := rfl
@[simp] theorem State.sbx_faulted (s : State) (m : Byte) : (s.sbx m).faulted = s.faulted := rfl
@[simp] theorem State.sbx_output (s : State) (m : Byte) : (s.sbx m).output = s.output := rfl
@[simp] theorem State.sbx_hostEvents (s : State) (m : Byte) : (s.sbx m).hostEvents = s.hostEvents := rfl
@[simp] theorem State.sbx_wiring (s : State) (m : Byte) : (s.sbx m).wiring = s.wiring := rfl
@[simp] theorem State.sbx_agenda (s : State) (m : Byte) : (s.sbx m).agenda = s.agenda := rfl
@[simp] theorem State.sbx_quantumLeft (s : State) (m : Byte) : (s.sbx m).quantumLeft = s.quantumLeft := rfl
@[simp] theorem State.sbx_freeCount (s : State) (m : Byte) : (s.sbx m).freeCount = s.freeCount := rfl

/-! ### `State.flagNZ` -/

@[simp] theorem State.flagNZ_a (s : State) (v : Byte) : (s.flagNZ v).a = s.a := rfl
@[simp] theorem State.flagNZ_x (s : State) (v : Byte) : (s.flagNZ v).x = s.x := rfl
@[simp] theorem State.flagNZ_y (s : State) (v : Byte) : (s.flagNZ v).y = s.y := rfl
@[simp] theorem State.flagNZ_sp (s : State) (v : Byte) : (s.flagNZ v).sp = s.sp := rfl
@[simp] theorem State.flagNZ_pc (s : State) (v : Byte) : (s.flagNZ v).pc = s.pc := rfl
@[simp] theorem State.flagNZ_flags (s : State) (v : Byte) : (s.flagNZ v).flags = s.flags.setNZ v := rfl
@[simp] theorem State.flagNZ_cycles (s : State) (v : Byte) : (s.flagNZ v).cycles = s.cycles := rfl
@[simp] theorem State.flagNZ_opcode (s : State) (v : Byte) : (s.flagNZ v).opcode = s.opcode := rfl
@[simp] theorem State.flagNZ_inputs (s : State) (v : Byte) : (s.flagNZ v).inputs = s.inputs := rfl
@[simp] theorem State.flagNZ_hook (s : State) (v : Byte) : (s.flagNZ v).hook = s.hook := rfl
@[simp] theorem State.flagNZ_pia (s : State) (v : Byte) : (s.flagNZ v).pia = s.pia := rfl
@[simp] theorem State.flagNZ_clock (s : State) (v : Byte) : (s.flagNZ v).clock = s.clock := rfl
@[simp] theorem State.flagNZ_mem (s : State) (v : Byte) : (s.flagNZ v).mem = s.mem := rfl
@[simp] theorem State.flagNZ_faulted (s : State) (v : Byte) : (s.flagNZ v).faulted = s.faulted := rfl
@[simp] theorem State.flagNZ_output (s : State) (v : Byte) : (s.flagNZ v).output = s.output := rfl
@[simp] theorem State.flagNZ_hostEvents (s : State) (v : Byte) : (s.flagNZ v).hostEvents = s.hostEvents := rfl
@[simp] theorem State.flagNZ_wiring (s : State) (v : Byte) : (s.flagNZ v).wiring = s.wiring := rfl
@[simp] theorem State.flagNZ_agenda (s : State) (v : Byte) : (s.flagNZ v).agenda = s.agenda := rfl
@[simp] theorem State.flagNZ_quantumLeft (s : State) (v : Byte) : (s.flagNZ v).quantumLeft = s.quantumLeft := rfl
@[simp] theorem State.flagNZ_freeCount (s : State) (v : Byte) : (s.flagNZ v).freeCount = s.freeCount := rfl

/-! ### `State.emit` -/

@[simp] theorem State.emit_a (s : State) (e : HostEvent) : (s.emit e).a = s.a := rfl
@[simp] theorem State.emit_x (s : State) (e : HostEvent) : (s.emit e).x = s.x := rfl
@[simp] theorem State.emit_y (s : State) (e : HostEvent) : (s.emit e).y = s.y := rfl
@[simp] theorem State.emit_sp (s : State) (e : HostEvent) : (s.emit e).sp = s.sp := rfl
@[simp] theorem State.emit_pc (s : State) (e : HostEvent) : (s.emit e).pc = s.pc := rfl
@[simp] theorem State.emit_flags (s : State) (e : HostEvent) : (s.emit e).flags = s.flags := rfl
@[simp] theorem State.emit_cycles (s : State) (e : HostEvent) : (s.emit e).cycles = s.cycles := rfl
@[simp] theorem State.emit_opcode (s : State) (e : HostEvent) : (s.emit e).opcode = s.opcode := rfl
@[simp] theorem State.emit_inputs (s : State) (e : HostEvent) : (s.emit e).inputs = s.inputs := rfl
@[simp] theorem State.emit_hook (s : State) (e : HostEvent) : (s.emit e).hook = s.hook := rfl
@[simp] theorem State.emit_pia (s : State) (e : HostEvent) : (s.emit e).pia = s.pia := rfl
@[simp] theorem State.emit_clock (s : State) (e : HostEvent) : (s.emit e).clock = s.clock := rfl
@[simp] theorem State.emit_mem (s : State) (e : HostEvent) : (s.emit e).mem = s.mem := rfl
@[simp] theorem State.emit_faulted (s : State) (e : HostEvent) : (s.emit e).faulted = s.faulted := rfl
@[simp] theorem State.emit_output (s : State) (e : HostEvent) : (s.emit e).output = s.output := rfl
@[simp] theorem State.emit_hostEvents (s : State) (e : HostEvent) : (s.emit e).hostEvents = s.hostEvents ++ [e] := rfl
@[simp] theorem State.emit_wiring (s : State) (e : HostEvent) : (s.emit e).wiring = s.wiring := rfl
@[simp] theorem State.emit_agenda (s : State) (e : HostEvent) : (s.emit e).agenda = s.agenda := rfl
@[simp] theorem State.emit_quantumLeft (s : State) (e : HostEvent) : (s.emit e).quantumLeft = s.quantumLeft := rfl
@[simp] theorem State.emit_freeCount (s : State) (e : HostEvent) : (s.emit e).freeCount = s.freeCount := rfl

/-! ### `State.pause` -/

@[simp] theorem State.pause_a (s : State) : s.pause.a = s.a := rfl
@[simp] theorem State.pause_x (s : State) : s.pause.x = s.x := rfl
@[simp] theorem State.pause_y (s : State) : s.pause.y = s.y := rfl
@[simp] theorem State.pause_sp (s : State) : s.pause.sp = s.sp := rfl
@[simp] theorem State.pause_pc (s : State) : s.pause.pc = s.pc := rfl
@[simp] theorem State.pause_flags (s : State) : s.pause.flags = s.flags := rfl
@[simp] theorem State.pause_cycles (s : State) : s.pause.cycles = s.cycles := rfl
@[simp] theorem State.pause_opcode (s : State) : s.pause.opcode = s.opcode := rfl
@[simp] theorem State.pause_inputs (s : State) : s.pause.inputs = s.inputs := rfl
@[simp] theorem State.pause_hook (s : State) : s.pause.hook = s.hook := rfl
@[simp] theorem State.pause_pia (s : State) : s.pause.pia = s.pia := rfl
@[simp] theorem State.pause_clock (s : State) : s.pause.clock = { s.clock with paused := true } := rfl
@[simp] theorem State.pause_mem (s : State) : s.pause.mem = s.mem := rfl
@[simp] theorem State.pause_faulted (s : State) : s.pause.faulted = s.faulted := rfl
@[simp] theorem State.pause_output (s : State) : s.pause.output = s.output := rfl
@[simp] theorem State.pause_hostEvents (s : State) : s.pause.hostEvents = s.hostEvents := rfl
@[simp] theorem State.pause_wiring (s : State) : s.pause.wiring = s.wiring := rfl
@[simp] theorem State.pause_agenda (s : State) : s.pause.agenda = s.agenda := rfl
@[simp] theorem State.pause_quantumLeft (s : State) : s.pause.quantumLeft = s.quantumLeft := rfl
@[simp] theorem State.pause_freeCount (s : State) : s.pause.freeCount = s.freeCount := rfl

/-! ### `State.resetTiming` -/

@[simp] theorem State.resetTiming_a (s : State) (now : Rat) : (s.resetTiming now).a = s.a := rfl
@[simp] theorem State.resetTiming_x (s : State) (now : Rat) : (s.resetTiming now).x = s.x := rfl
@[simp] theorem State.resetTiming_y (s : State) (now : Rat) : (s.resetTiming now).y = s.y := rfl
@[simp] theorem State.resetTiming_sp (s : State) (now : Rat) : (s.resetTiming now).sp = s.sp := rfl
@[simp] theorem State.resetTiming_pc (s : State) (now : Rat) : (s.resetTiming now).pc = s.pc := rfl
@[simp] theorem State.resetTiming_flags (s : State) (now : Rat) : (s.resetTiming now).flags = s.flags := rfl
@[simp] theorem State.resetTiming_cycles (s : State) (now : Rat) : (s.resetTiming now).cycles = s.cycles := rfl
@[simp] theorem State.resetTiming_opcode (s : State) (now : Rat) : (s.resetTiming now).opcode = s.opcode := rfl
@[simp] theorem State.resetTiming_inputs (s : State) (now : Rat) : (s.resetTiming now).inputs = s.inputs := rfl
@[simp] theorem State.resetTiming_hook (s : State) (now : Rat) : (s.resetTiming now).hook = s.hook := rfl
@[simp] theorem State.resetTiming_pia (s : State) (now : Rat) : (s.resetTiming now).pia = s.pia := rfl
@[simp] theorem State.resetTiming_clock (s : State) (now : Rat) :
    (s.resetTiming now).clock = { s.clock with anchorTime := some now, anchorCycles := some s.cycles, drift := 0 } := rfl
@[simp] theorem State.resetTiming_mem (s : State) (now : Rat) : (s.resetTiming now).mem = s.mem := rfl
@[simp] theorem State.resetTiming_faulted (s : State) (now : Rat) : (s.resetTiming now).faulted = s.faulted := rfl
@[simp] theorem State.resetTiming_output (s : State) (now : Rat) : (s.resetTiming now).output = s.output := rfl
@[simp] theorem State.resetTiming_hostEvents (s : State) (now : Rat) :
    (s.resetTiming now).hostEvents = s.hostEvents := rfl
@[simp] theorem State.resetTiming_wiring (s : State) (now : Rat) : (s.resetTiming now).wiring = s.wiring := rfl
@[simp] theorem State.resetTiming_agenda (s : State) (now : Rat) : (s.resetTiming now).agenda = s.agenda := rfl
@[simp] theorem State.resetTiming_quantumLeft (s : State) (now : Rat) :
    (s.resetTiming now).quantumLeft = s.quantumLeft := rfl
@[simp] theorem State.resetTiming_freeCount (s : State) (now : Rat) : (s.resetTiming now).freeCount = s.freeCount := rfl

/-! ### `State.resume` -/

@[simp] theorem State.resume_a (s : State) (now : Rat) : (s.resume now).a = s.a := rfl
@[simp] theorem State.resume_x (s : State) (now : Rat) : (s.resume now).x = s.x := rfl
@[simp] theorem State.resume_y (s : State) (now : Rat) : (s.resume now).y = s.y := rfl
@[simp] theorem State.resume_sp (s : State) (now : Rat) : (s.resume now).sp = s.sp := rfl
@[simp] theorem State.resume_pc (s : State) (now : Rat) : (s.resume now).pc = s.pc := rfl
@[simp] theorem State.resume_flags (s : State) (now : Rat) : (s.resume now).flags = s.flags := rfl
@[simp] theorem State.resume_cycles (s : State) (now : Rat) : (s.resume now).cycles = s.cycles := rfl
@[simp] theorem State.resume_opcode (s : State) (now : Rat) : (s.resume now).opcode = s.opcode := rfl
@[simp] theorem State.resume_inputs (s : State) (now : Rat) : (s.resume now).inputs = s.inputs := rfl
@[simp] theorem State.resume_hook (s : State) (now : Rat) : (s.resume now).hook = s.hook := rfl
@[simp] theorem State.resume_pia (s : State) (now : Rat) : (s.resume now).pia = s.pia := rfl
@[simp] theorem State.resume_clock (s : State) (now : Rat) : (s.resume now).clock =
    { (if s.faulted then s else s.resetTiming now).clock with paused := false } := rfl
@[simp] theorem State.resume_mem (s : State) (now : Rat) : (s.resume now).mem = s.mem := rfl
@[simp] theorem State.resume_faulted (s : State) (now : Rat) : (s.resume now).faulted = s.faulted := rfl
@[simp] theorem State.resume_output (s : State) (now : Rat) : (s.resume now).output = s.output := rfl
@[simp] theorem State.resume_hostEvents (s : State) (now : Rat) : (s.resume now).hostEvents = s.hostEvents := rfl
@[simp] theorem State.resume_wiring (s : State) (now : Rat) : (s.resume now).wiring = s.wiring := rfl
@[simp] theorem State.resume_agenda (s : State) (now : Rat) : (s.resume now).agenda = s.agenda := rfl
@[simp] theorem State.resume_quantumLeft (s : State) (now : Rat) : (s.resume now).quantumLeft = s.quantumLeft := rfl
@[simp] theorem State.resume_freeCount (s : State) (now : Rat) : (s.resume now).freeCount = s.freeCount := rfl

/-! ### `State.setCycleAccurate` -/

@[simp] theorem State.setCycleAccurate_a (s : State) (flag : Bool) : (s.setCycleAccurate flag).a = s.a := rfl
@[simp] theorem State.setCycleAccurate_x (s : State) (flag : Bool) : (s.setCycleAccurate flag).x = s.x := rfl
@[simp] theorem State.setCycleAccurate_y (s : State) (flag : Bool) : (s.setCycleAccurate flag).y = s.y := rfl
@[simp] theorem State.setCycleAccurate_sp (s : State) (flag : Bool) : (s.setCycleAccurate flag).sp = s.sp := rfl
@[simp] theorem State.setCycleAccurate_pc (s : State) (flag : Bool) : (s.setCycleAccurate flag).pc = s.pc := rfl
@[simp] theorem State.setCycleAccurate_flags (s : State) (flag : Bool) :
    (s.setCycleAccurate flag).flags = s.flags := rfl
@[simp] theorem State.setCycleAccurate_cycles (s : State) (flag : Bool) :
    (s.setCycleAccurate flag).cycles = s.cycles := rfl
@[simp] theorem State.setCycleAccurate_opcode (s : State) (flag : Bool) :
    (s.setCycleAccurate flag).opcode = s.opcode := rfl
@[simp] theorem State.setCycleAccurate_inputs (s : State) (flag : Bool) :
    (s.setCycleAccurate flag).inputs = s.inputs := rfl
@[simp] theorem State.setCycleAccurate_hook (s : State) (flag : Bool) : (s.setCycleAccurate flag).hook = s.hook := rfl
@[simp] theorem State.setCycleAccurate_pia (s : State) (flag : Bool) : (s.setCycleAccurate flag).pia = s.pia := rfl
@[simp] theorem State.setCycleAccurate_clock (s : State) (flag : Bool) :
    (s.setCycleAccurate flag).clock = { s.clock with cycleAccurate := flag } := rfl
@[simp] theorem State.setCycleAccurate_mem (s : State) (flag : Bool) : (s.setCycleAccurate flag).mem = s.mem := rfl
@[simp] theorem State.setCycleAccurate_faulted (s : State) (flag : Bool) :
    (s.setCycleAccurate flag).faulted = s.faulted := rfl
@[simp] theorem State.setCycleAccurate_output (s : State) (flag : Bool) :
    (s.setCycleAccurate flag).output = s.output := rfl
@[simp] theorem State.setCycleAccurate_hostEvents (s : State) (flag : Bool) :
    (s.setCycleAccurate flag).hostEvents = s.hostEvents := rfl
@[simp] theorem State.setCycleAccurate_wiring (s : State) (flag : Bool) :
    (s.setCycleAccurate flag).wiring = s.wiring := rfl
@[simp] theorem State.setCycleAccurate_agenda (s : State) (flag : Bool) :
    (s.setCycleAccurate flag).agenda = s.agenda := rfl
@[simp] theorem State.setCycleAccurate_quantumLeft (s : State) (flag : Bool) :
    (s.setCycleAccurate flag).quantumLeft = s.quantumLeft := rfl
@[simp] theorem State.setCycleAccurate_freeCount (s : State) (flag : Bool) :
    (s.setCycleAccurate flag).freeCount = s.freeCount := rfl

/-! ### `State.setIrqLine` -/

@[simp] theorem State.setIrqLine_a (s : State) (level : Bool) : (s.setIrqLine level).a = s.a := rfl
@[simp] theorem State.setIrqLine_x (s : State) (level : Bool) : (s.setIrqLine level).x = s.x := rfl
@[simp] theorem State.setIrqLine_y (s : State) (level : Bool) : (s.setIrqLine level).y = s.y := rfl
@[simp] theorem State.setIrqLine_sp (s : State) (level : Bool) : (s.setIrqLine level).sp = s.sp := rfl
@[simp] theorem State.setIrqLine_pc (s : State) (level : Bool) : (s.setIrqLine level).pc = s.pc := rfl
@[simp] theorem State.setIrqLine_flags (s : State) (level : Bool) : (s.setIrqLine level).flags = s.flags := rfl
@[simp] theorem State.setIrqLine_cycles (s : State) (level : Bool) : (s.setIrqLine level).cycles = s.cycles := rfl
@[simp] theorem State.setIrqLine_opcode (s : State) (level : Bool) : (s.setIrqLine level).opcode = s.opcode := rfl
@[simp] theorem State.setIrqLine_inputs (s : State) (level : Bool) :
    (s.setIrqLine level).inputs = { s.inputs with irqLine := level } := rfl
@[simp] theorem State.setIrqLine_hook (s : State) (level : Bool) : (s.setIrqLine level).hook = s.hook := rfl
@[simp] theorem State.setIrqLine_pia (s : State) (level : Bool) : (s.setIrqLine level).pia = s.pia := rfl
@[simp] theorem State.setIrqLine_clock (s : State) (level : Bool) : (s.setIrqLine level).clock = s.clock := rfl
@[simp] theorem State.setIrqLine_mem (s : State) (level : Bool) : (s.setIrqLine level).mem = s.mem := rfl
@[simp] theorem State.setIrqLine_faulted (s : State) (level : Bool) : (s.setIrqLine level).faulted = s.faulted := rfl
@[simp] theorem State.setIrqLine_output (s : State) (level : Bool) : (s.setIrqLine level).output = s.output := rfl
@[simp] theorem State.setIrqLine_hostEvents (s : State) (level : Bool) :
    (s.setIrqLine level).hostEvents = s.hostEvents := rfl
@[simp] theorem State.setIrqLine_wiring (s : State) (level : Bool) : (s.setIrqLine level).wiring = s.wiring := rfl
@[simp] theorem State.setIrqLine_agenda (s : State) (level : Bool) : (s.setIrqLine level).agenda = s.agenda := rfl
@[simp] theorem State.setIrqLine_quantumLeft (s : State) (level : Bool) :
    (s.setIrqLine level).quantumLeft = s.quantumLeft := rfl
@[simp] theorem State.setIrqLine_freeCount (s : State) (level : Bool) :
    (s.setIrqLine level).freeCount = s.freeCount := rfl

end Sys2Proof.Machine
end

