-- ==== Sys2Proof/Laws/Ops.lean ====
section
/-! SUPPORT. What the shared operations over the Bus can do, said once: a read changes the PIA at most, a write the memory, the PIA and
the output history at most; the parts of the address space; the stack. -/

namespace Sys2Proof.Machine

/-! ### Where an address lies -/

theorem busFind_ram0 (a : Nat) (h : a ≤ 0x0FFF) : busFind machineBus a = some ⟨0x0000, 0x0FFF, .ram0⟩ := by
  simp [busFind, machineBus, h]

theorem busFind_pia (a : Nat) (h : 0xD010 ≤ a ∧ a ≤ 0xD013) : busFind machineBus a = some ⟨0xD010, 0xD013, .pia⟩ := by
  simp [busFind, machineBus, h.1, h.2, show ¬ a ≤ 0x0FFF by omega]

theorem busFind_ram1 (a : Nat) (h : 0xE000 ≤ a ∧ a ≤ 0xEFFF) : busFind machineBus a = some ⟨0xE000, 0xEFFF, .ram1⟩ := by
  simp [busFind, machineBus, h.1, h.2, show ¬ a ≤ 0x0FFF by omega, show ¬ a ≤ 0xD013 by omega]

theorem busFind_rom (a : Nat) (h : 0xFF00 ≤ a ∧ a ≤ 0xFFFF) : busFind machineBus a = some ⟨0xFF00, 0xFFFF, .rom⟩ := by
  simp [busFind, machineBus, h.1, h.2, show ¬ a ≤ 0x0FFF by omega, show ¬ a ≤ 0xD013 by omega,
    show ¬ a ≤ 0xEFFF by omega]

theorem busFind_unmapped (a : Nat) (h : isStored a = false) (hp : ¬ (0xD010 ≤ a ∧ a ≤ 0xD013)) :
    busFind machineBus a = none := by
  simp only [isStored, isRam, isRom, Bool.or_eq_false_iff, Bool.and_eq_false_iff, decide_eq_false_iff_not] at h
  simp only [busFind, machineBus, List.find?_cons, List.find?_nil]
  rw [show (decide (0x0000 ≤ a) && decide (a ≤ 0x0FFF)) = false by simp; omega,
    show (decide (0xD010 ≤ a) && decide (a ≤ 0xD013)) = false by simp; omega,
    show (decide (0xE000 ≤ a) && decide (a ≤ 0xEFFF)) = false by simp; omega,
    show (decide (0xFF00 ≤ a) && decide (a ≤ 0xFFFF)) = false by simp; omega]

/-! ### Reads -/

/-- A read of RAM or ROM gives the stored byte and has no side effect. -/
theorem memRead_stored (s : State) (a : Addr) (h : isStored a.toNat = true) : s.memRead a = (s.mem.read a.toNat, s) := by
  simp only [isStored, isRam, isRom, Bool.or_eq_true, Bool.and_eq_true, decide_eq_true_eq] at h
  unfold State.memRead
  rcases h with (h | h) | h
  · rw [busFind_ram0 _ h]
  · rw [busFind_ram1 _ h]
  · rw [busFind_rom _ h]

theorem memRead_of_pia (s : State) (a : Addr) (start stop : Nat)
    (h : busFind machineBus a.toNat = some ⟨start, stop, .pia⟩) :
    s.memRead a = ((s.pia.read (a.toNat - start)).1, { s with pia := (s.pia.read (a.toNat - start)).2 }) := by
  simp only [State.memRead, h]

/-- A read of a PIA address is `PiaRead` of its offset. -/
theorem memRead_pia (s : State) (a : Addr) (o : Nat) (h : a.toNat = 0xD010 + o) (ho : o < 4) :
    s.memRead a = ((s.pia.read o).1, { s with pia := (s.pia.read o).2 }) := by
  rw [memRead_of_pia s a _ _ (busFind_pia _ ⟨by omega, by omega⟩), h, Nat.add_sub_cancel_left]

/-- A read of an unmapped address gives 0 and has no side effect. -/
theorem memRead_unmapped (s : State) (a : Addr) (h : isStored a.toNat = false)
    (hp : ¬ (0xD010 ≤ a.toNat ∧ a.toNat ≤ 0xD013)) : s.memRead a = (0, s) := by
  unfold State.memRead
  rw [busFind_unmapped _ h hp]

/-- The three cases of a read, said once. -/
theorem memRead_cases (s : State) (a : Addr) :
    (isStored a.toNat = true ∧ s.memRead a = (s.mem.read a.toNat, s)) ∨
    (∃ o, (a.toNat = 0xD010 + o ∧ o < 4) ∧ s.memRead a = ((s.pia.read o).1, { s with pia := (s.pia.read o).2 })) ∨
    (isStored a.toNat = false ∧ s.memRead a = (0, s)) := by
  by_cases hp : 0xD010 ≤ a.toNat ∧ a.toNat ≤ 0xD013
  · obtain ⟨o, ho⟩ := Nat.exists_eq_add_of_le hp.1
    have h4 : o < 4 := by omega
    exact .inr (.inl ⟨o, ⟨ho, h4⟩, memRead_pia s a o ho h4⟩)
  · cases h : isStored a.toNat
    · exact .inr (.inr ⟨rfl, memRead_unmapped s a h hp⟩)
    · exact .inl ⟨rfl, memRead_stored s a h⟩

/-- A read changes the PIA at most. -/
theorem memRead_frame (s : State) (a : Addr) : (s.memRead a).2 = { s with pia := (s.memRead a).2.pia } := by
  rcases memRead_cases s a with ⟨-, h⟩ | ⟨o, -, h⟩ | ⟨-, h⟩ <;> rw [h]

/-- A read of the zero page has no side effect (20_memory.md R71). -/
theorem memRead_zeroPage (s : State) (v : Byte) : s.memRead (join 0 v) = (s.mem.read v.toNat, s) := by
  have hv := v.isLt
  rw [memRead_stored _ _ (by simp [isStored, isRam, join_toNat]; omega), join_toNat]
  simp

/-- The stack lies in RAM0 (20_memory.md R71). -/
theorem stackAddr_toNat (v : Byte) : (stackAddr v).toNat = 256 + v.toNat := by
  rw [stackAddr, join_toNat]
  rfl

theorem stackAddr_isRam (v : Byte) : isRam (stackAddr v).toNat = true := by
  have := v.isLt
  rw [stackAddr_toNat]
  simp [isRam]
  omega

/-! ### Writes -/

/-- A write to RAM stores the byte. -/
theorem memWrite_ram (s : State) (a : Addr) (v : Byte) (h : isRam a.toNat = true) :
    s.memWrite a v = { s with mem := s.mem.write a.toNat v } := by
  simp only [isRam, Bool.or_eq_true, Bool.and_eq_true, decide_eq_true_eq] at h
  unfold State.memWrite
  rcases h with h | h
  · rw [busFind_ram0 _ h]
  · rw [busFind_ram1 _ h]

theorem memWrite_of_pia (s : State) (a : Addr) (v : Byte) (start stop : Nat)
    (h : busFind machineBus a.toNat = some ⟨start, stop, .pia⟩) :
    s.memWrite a v = { s with
      pia := (s.pia.write (a.toNat - start) v).1, output := s.output ++ (s.pia.write (a.toNat - start) v).2 } := by
  simp only [State.memWrite, h]

/-- A write to a PIA address is `PiaWrite` of its offset, and its event goes to the output history. -/
theorem memWrite_pia (s : State) (a : Addr) (v : Byte) (o : Nat) (h : a.toNat = 0xD010 + o) (ho : o < 4) :
    s.memWrite a v = { s with pia := (s.pia.write o v).1, output := s.output ++ (s.pia.write o v).2 } := by
  rw [memWrite_of_pia s a v _ _ (busFind_pia _ ⟨by omega, by omega⟩), h, Nat.add_sub_cancel_left]

/-- A write to ROM or to an unmapped address does nothing. -/
theorem memWrite_dropped (s : State) (a : Addr) (v : Byte) (h : isRam a.toNat = false)
    (hp : ¬ (0xD010 ≤ a.toNat ∧ a.toNat ≤ 0xD013)) : s.memWrite a v = s := by
  unfold State.memWrite
  cases hr : isRom a.toNat
  · rw [busFind_unmapped _ (by simp [isStored, h, hr]) hp]
  · simp only [isRom, Bool.and_eq_true, decide_eq_true_eq] at hr
    rw [busFind_rom _ hr]

/-- The three cases of a write, said once. -/
theorem memWrite_cases (s : State) (a : Addr) (v : Byte) :
    (isRam a.toNat = true ∧ s.memWrite a v = { s with mem := s.mem.write a.toNat v }) ∨
    (∃ o, (a.toNat = 0xD010 + o ∧ o < 4) ∧
      s.memWrite a v = { s with pia := (s.pia.write o v).1, output := s.output ++ (s.pia.write o v).2 }) ∨
    (isRam a.toNat = false ∧ s.memWrite a v = s) := by
  by_cases hp : 0xD010 ≤ a.toNat ∧ a.toNat ≤ 0xD013
  · obtain ⟨o, ho⟩ := Nat.exists_eq_add_of_le hp.1
    have h4 : o < 4 := by omega
    exact .inr (.inl ⟨o, ⟨ho, h4⟩, memWrite_pia s a v o ho h4⟩)
  · cases h : isRam a.toNat
    · exact .inr (.inr ⟨rfl, memWrite_dropped s a v h hp⟩)
    · exact .inl ⟨rfl, memWrite_ram s a v h⟩

/-- A write changes the memory, the PIA and the output history at most. -/
theorem memWrite_frame (s : State) (a : Addr) (v : Byte) : s.memWrite a v = { s with
    mem := (s.memWrite a v).mem, pia := (s.memWrite a v).pia, output := (s.memWrite a v).output } := by
  rcases memWrite_cases s a v with ⟨-, h⟩ | ⟨o, -, h⟩ | ⟨-, h⟩ <;> rw [h]

/-- A write leaves every byte at another address as it was. -/
theorem memWrite_read_other (s : State) (a : Addr) (v : Byte) (b : Nat) (h : b ≠ a.toNat) :
    (s.memWrite a v).mem.read b = s.mem.read b := by
  rcases memWrite_cases s a v with ⟨-, e⟩ | ⟨o, -, e⟩ | ⟨-, e⟩ <;> rw [e]
  exact Memory.read_write_other _ _ _ _ (Ne.symm h)

/-- A write keeps the canonical form of the memory. -/
theorem memWrite_wf (s : State) (a : Addr) (v : Byte) (h : s.mem.wf = true) : (s.memWrite a v).mem.wf = true := by
  rcases memWrite_cases s a v with ⟨hr, e⟩ | ⟨o, -, e⟩ | ⟨-, e⟩ <;> rw [e]
  · exact Memory.write_wf _ _ _ h (by simp [isStored, hr])
  · exact h
  · exact h

/-- A write leaves the ROM as it was (20_memory.md R66). -/
theorem memWrite_rom (s : State) (a : Addr) (v : Byte) (b : Nat) (h : isRom b = true) :
    (s.memWrite a v).mem.read b = s.mem.read b := by
  rcases memWrite_cases s a v with ⟨hr, e⟩ | ⟨o, -, e⟩ | ⟨-, e⟩ <;> rw [e]
  apply Memory.read_write_other
  rintro rfl
  simp only [isRam, isRom, Bool.or_eq_true, Bool.and_eq_true, decide_eq_true_eq] at hr h
  omega

/-! ### Fields after `memRead` -/

@[simp] theorem memRead_a (s : State) (a : Addr) : (s.memRead a).2.a = s.a := by rw [memRead_frame]
@[simp] theorem memRead_x (s : State) (a : Addr) : (s.memRead a).2.x = s.x := by rw [memRead_frame]
@[simp] theorem memRead_y (s : State) (a : Addr) : (s.memRead a).2.y = s.y := by rw [memRead_frame]
@[simp] theorem memRead_sp (s : State) (a : Addr) : (s.memRead a).2.sp = s.sp := by rw [memRead_frame]
@[simp] theorem memRead_pc (s : State) (a : Addr) : (s.memRead a).2.pc = s.pc := by rw [memRead_frame]
@[simp] theorem memRead_flags (s : State) (a : Addr) : (s.memRead a).2.flags = s.flags := by rw [memRead_frame]
@[simp] theorem memRead_cycles (s : State) (a : Addr) : (s.memRead a).2.cycles = s.cycles := by rw [memRead_frame]
@[simp] theorem memRead_opcode (s : State) (a : Addr) : (s.memRead a).2.opcode = s.opcode := by rw [memRead_frame]
@[simp] theorem memRead_inputs (s : State) (a : Addr) : (s.memRead a).2.inputs = s.inputs := by rw [memRead_frame]
@[simp] theorem memRead_hook (s : State) (a : Addr) : (s.memRead a).2.hook = s.hook := by rw [memRead_frame]
@[simp] theorem memRead_clock (s : State) (a : Addr) : (s.memRead a).2.clock = s.clock := by rw [memRead_frame]
@[simp] theorem memRead_mem (s : State) (a : Addr) : (s.memRead a).2.mem = s.mem := by rw [memRead_frame]
@[simp] theorem memRead_faulted (s : State) (a : Addr) : (s.memRead a).2.faulted = s.faulted := by rw [memRead_frame]
@[simp] theorem memRead_output (s : State) (a : Addr) : (s.memRead a).2.output = s.output := by rw [memRead_frame]
@[simp] theorem memRead_hostEvents (s : State) (a : Addr) : (s.memRead a).2.hostEvents = s.hostEvents :=
  by rw [memRead_frame]
@[simp] theorem memRead_wiring (s : State) (a : Addr) : (s.memRead a).2.wiring = s.wiring := by rw [memRead_frame]
@[simp] theorem memRead_agenda (s : State) (a : Addr) : (s.memRead a).2.agenda = s.agenda := by rw [memRead_frame]
@[simp] theorem memRead_quantumLeft (s : State) (a : Addr) : (s.memRead a).2.quantumLeft = s.quantumLeft :=
  by rw [memRead_frame]
@[simp] theorem memRead_freeCount (s : State) (a : Addr) : (s.memRead a).2.freeCount = s.freeCount :=
  by rw [memRead_frame]

/-! ### Fields after `memWrite` -/

@[simp] theorem memWrite_a (s : State) (a : Addr) (v : Byte) : (s.memWrite a v).a = s.a := by rw [memWrite_frame]
@[simp] theorem memWrite_x (s : State) (a : Addr) (v : Byte) : (s.memWrite a v).x = s.x := by rw [memWrite_frame]
@[simp] theorem memWrite_y (s : State) (a : Addr) (v : Byte) : (s.memWrite a v).y = s.y := by rw [memWrite_frame]
@[simp] theorem memWrite_sp (s : State) (a : Addr) (v : Byte) : (s.memWrite a v).sp = s.sp := by rw [memWrite_frame]
@[simp] theorem memWrite_pc (s : State) (a : Addr) (v : Byte) : (s.memWrite a v).pc = s.pc := by rw [memWrite_frame]
@[simp] theorem memWrite_flags (s : State) (a : Addr) (v : Byte) : (s.memWrite a v).flags = s.flags :=
  by rw [memWrite_frame]
@[simp] theorem memWrite_cycles (s : State) (a : Addr) (v : Byte) : (s.memWrite a v).cycles = s.cycles :=
  by rw [memWrite_frame]
@[simp] theorem memWrite_opcode (s : State) (a : Addr) (v : Byte) : (s.memWrite a v).opcode = s.opcode :=
  by rw [memWrite_frame]
@[simp] theorem memWrite_inputs (s : State) (a : Addr) (v : Byte) : (s.memWrite a v).inputs = s.inputs :=
  by rw [memWrite_frame]
@[simp] theorem memWrite_hook (s : State) (a : Addr) (v : Byte) : (s.memWrite a v).hook = s.hook :=
  by rw [memWrite_frame]
@[simp] theorem memWrite_clock (s : State) (a : Addr) (v : Byte) : (s.memWrite a v).clock = s.clock :=
  by rw [memWrite_frame]
@[simp] theorem memWrite_faulted (s : State) (a : Addr) (v : Byte) : (s.memWrite a v).faulted = s.faulted :=
  by rw [memWrite_frame]
@[simp] theorem memWrite_hostEvents (s : State) (a : Addr) (v : Byte) : (s.memWrite a v).hostEvents = s.hostEvents :=
  by rw [memWrite_frame]
@[simp] theorem memWrite_wiring (s : State) (a : Addr) (v : Byte) : (s.memWrite a v).wiring = s.wiring :=
  by rw [memWrite_frame]
@[simp] theorem memWrite_agenda (s : State) (a : Addr) (v : Byte) : (s.memWrite a v).agenda = s.agenda :=
  by rw [memWrite_frame]
@[simp] theorem memWrite_quantumLeft (s : State) (a : Addr) (v : Byte) : (s.memWrite a v).quantumLeft = s.quantumLeft :=
  by rw [memWrite_frame]
@[simp] theorem memWrite_freeCount (s : State) (a : Addr) (v : Byte) : (s.memWrite a v).freeCount = s.freeCount :=
  by rw [memWrite_frame]

/-! ### Fields after `read16` -/

@[simp] theorem read16_a (s : State) (a : Addr) : (s.read16 a).2.a = s.a := by simp [State.read16]
@[simp] theorem read16_x (s : State) (a : Addr) : (s.read16 a).2.x = s.x := by simp [State.read16]
@[simp] theorem read16_y (s : State) (a : Addr) : (s.read16 a).2.y = s.y := by simp [State.read16]
@[simp] theorem read16_sp (s : State) (a : Addr) : (s.read16 a).2.sp = s.sp := by simp [State.read16]
@[simp] theorem read16_pc (s : State) (a : Addr) : (s.read16 a).2.pc = s.pc := by simp [State.read16]
@[simp] theorem read16_flags (s : State) (a : Addr) : (s.read16 a).2.flags = s.flags := by simp [State.read16]
@[simp] theorem read16_cycles (s : State) (a : Addr) : (s.read16 a).2.cycles = s.cycles := by simp [State.read16]
@[simp] theorem read16_opcode (s : State) (a : Addr) : (s.read16 a).2.opcode = s.opcode := by simp [State.read16]
@[simp] theorem read16_inputs (s : State) (a : Addr) : (s.read16 a).2.inputs = s.inputs := by simp [State.read16]
@[simp] theorem read16_hook (s : State) (a : Addr) : (s.read16 a).2.hook = s.hook := by simp [State.read16]
@[simp] theorem read16_clock (s : State) (a : Addr) : (s.read16 a).2.clock = s.clock := by simp [State.read16]
@[simp] theorem read16_mem (s : State) (a : Addr) : (s.read16 a).2.mem = s.mem := by simp [State.read16]
@[simp] theorem read16_faulted (s : State) (a : Addr) : (s.read16 a).2.faulted = s.faulted := by simp [State.read16]
@[simp] theorem read16_output (s : State) (a : Addr) : (s.read16 a).2.output = s.output := by simp [State.read16]
@[simp] theorem read16_hostEvents (s : State) (a : Addr) : (s.read16 a).2.hostEvents = s.hostEvents :=
  by simp [State.read16]
@[simp] theorem read16_wiring (s : State) (a : Addr) : (s.read16 a).2.wiring = s.wiring := by simp [State.read16]
@[simp] theorem read16_agenda (s : State) (a : Addr) : (s.read16 a).2.agenda = s.agenda := by simp [State.read16]
@[simp] theorem read16_quantumLeft (s : State) (a : Addr) : (s.read16 a).2.quantumLeft = s.quantumLeft :=
  by simp [State.read16]
@[simp] theorem read16_freeCount (s : State) (a : Addr) : (s.read16 a).2.freeCount = s.freeCount :=
  by simp [State.read16]

/-! ### Fields after `readPointer` -/

@[simp] theorem readPointer_a (s : State) (a : Addr) : (s.readPointer a).2.a = s.a := by simp [State.readPointer]
@[simp] theorem readPointer_x (s : State) (a : Addr) : (s.readPointer a).2.x = s.x := by simp [State.readPointer]
@[simp] theorem readPointer_y (s : State) (a : Addr) : (s.readPointer a).2.y = s.y := by simp [State.readPointer]
@[simp] theorem readPointer_sp (s : State) (a : Addr) : (s.readPointer a).2.sp = s.sp := by simp [State.readPointer]
@[simp] theorem readPointer_pc (s : State) (a : Addr) : (s.readPointer a).2.pc = s.pc := by simp [State.readPointer]
@[simp] theorem readPointer_flags (s : State) (a : Addr) : (s.readPointer a).2.flags = s.flags :=
  by simp [State.readPointer]
@[simp] theorem readPointer_cycles (s : State) (a : Addr) : (s.readPointer a).2.cycles = s.cycles :=
  by simp [State.readPointer]
@[simp] theorem readPointer_opcode (s : State) (a : Addr) : (s.readPointer a).2.opcode = s.opcode :=
  by simp [State.readPointer]
@[simp] theorem readPointer_inputs (s : State) (a : Addr) : (s.readPointer a).2.inputs = s.inputs :=
  by simp [State.readPointer]
@[simp] theorem readPointer_hook (s : State) (a : Addr) : (s.readPointer a).2.hook = s.hook :=
  by simp [State.readPointer]
@[simp] theorem readPointer_clock (s : State) (a : Addr) : (s.readPointer a).2.clock = s.clock :=
  by simp [State.readPointer]
@[simp] theorem readPointer_mem (s : State) (a : Addr) : (s.readPointer a).2.mem = s.mem := by simp [State.readPointer]
@[simp] theorem readPointer_faulted (s : State) (a : Addr) : (s.readPointer a).2.faulted = s.faulted :=
  by simp [State.readPointer]
@[simp] theorem readPointer_output (s : State) (a : Addr) : (s.readPointer a).2.output = s.output :=
  by simp [State.readPointer]
@[simp] theorem readPointer_hostEvents (s : State) (a : Addr) : (s.readPointer a).2.hostEvents = s.hostEvents :=
  by simp [State.readPointer]
@[simp] theorem readPointer_wiring (s : State) (a : Addr) : (s.readPointer a).2.wiring = s.wiring :=
  by simp [State.readPointer]
@[simp] theorem readPointer_agenda (s : State) (a : Addr) : (s.readPointer a).2.agenda = s.agenda :=
  by simp [State.readPointer]
@[simp] theorem readPointer_quantumLeft (s : State) (a : Addr) : (s.readPointer a).2.quantumLeft = s.quantumLeft :=
  by simp [State.readPointer]
@[simp] theorem readPointer_freeCount (s : State) (a : Addr) : (s.readPointer a).2.freeCount = s.freeCount :=
  by simp [State.readPointer]

/-! ### The stack -/

/-- `Push` stores the byte in RAM0 at `0x0100 | S` and decrements `S` (42_stack.md R170). -/
theorem push_eq (s : State) (v : Byte) :
    s.push v = { s with mem := s.mem.write (256 + s.sp.toNat) v, sp := s.sp - 1 } := by
  simp [State.push, memWrite_ram _ _ _ (stackAddr_isRam s.sp), stackAddr_toNat]

/-- `Pull` increments `S` and reads RAM0 there, without a side effect (42_stack.md R171). -/
theorem pull_eq (s : State) :
    s.pull = (s.mem.read (256 + (s.sp + 1).toNat), { s with sp := s.sp + 1 }) := by
  have h : isStored (stackAddr (s.sp + 1)).toNat = true := by rw [isStored, stackAddr_isRam, Bool.true_or]
  rw [State.pull, memRead_stored _ _ h, stackAddr_toNat]

/-- A read of two bytes in ROM gives the stored bytes and has no side effect: the vectors (20_memory.md R72). -/
theorem read16_stored (s : State) (a : Addr) (h0 : isStored a.toNat = true) (h1 : isStored (a + 1).toNat = true) :
    s.read16 a = (join (s.mem.read (a + 1).toNat) (s.mem.read a.toNat), s) := by
  simp only [State.read16, memRead_stored _ _ h0, memRead_stored _ _ h1]

/-- A pointer in the zero page is read without a side effect (40_addressing.md R140, R141). -/
theorem readPointer_zeroPage (s : State) (v : Byte) :
    s.readPointer (zeroPage v) = (join (s.mem.read (v + 1).toNat) (s.mem.read v.toNat), s) := by
  simp only [State.readPointer, zeroPage, memRead_zeroPage, hi_join, lo_join]

/-- The `zeroPage` address as a number. -/
theorem zeroPage_toNat (v : Byte) : (zeroPage v).toNat = v.toNat := by
  rw [zeroPage, join_toNat]
  simp

/-- Taking an interrupt, said once (60_exceptions.md R305): three bytes in the stack page, `S` down by 3, `I` set, `PC` at the
vector, and nothing else. -/
theorem interrupt_eq (s : State) (vector : Addr) (b : Bool) (h0 : isRom vector.toNat = true)
    (h1 : isRom (vector + 1).toNat = true) :
    s.interrupt vector b = { s with
      mem := ((s.mem.write (256 + s.sp.toNat) (hi s.pc)).write (256 + (s.sp - 1).toNat) (lo s.pc)).write
        (256 + (s.sp - 1 - 1).toNat) (statusByte b s.flags)
      sp := s.sp - 1 - 1 - 1
      flags := { s.flags with i := true }
      pc := join (s.mem.read (vector + 1).toNat) (s.mem.read vector.toNat) } := by
  have rom : ∀ (m : Memory) (a : Nat) (p v : Byte), isRom a = true → (m.write (256 + p.toNat) v).read a = m.read a := by
    intro m a p v h
    apply Memory.read_write_other
    have := p.isLt
    simp only [isRom, Bool.and_eq_true, decide_eq_true_eq] at h
    omega
  simp only [State.interrupt, push_eq]
  rw [read16_stored _ _ (by rw [isStored, h0, Bool.or_true]) (by rw [isStored, h1, Bool.or_true])]
  simp only [rom _ _ _ _ h0, rom _ _ _ _ h1]

/-! ### Flags and results -/

@[simp] theorem Flags.setNZ_n (f : Flags) (v : Byte) : (f.setNZ v).n = v.msb := rfl
@[simp] theorem Flags.setNZ_v (f : Flags) (v : Byte) : (f.setNZ v).v = f.v := rfl
@[simp] theorem Flags.setNZ_d (f : Flags) (v : Byte) : (f.setNZ v).d = f.d := rfl
@[simp] theorem Flags.setNZ_i (f : Flags) (v : Byte) : (f.setNZ v).i = f.i := rfl
@[simp] theorem Flags.setNZ_z (f : Flags) (v : Byte) : (f.setNZ v).z = (v == 0) := rfl
@[simp] theorem Flags.setNZ_c (f : Flags) (v : Byte) : (f.setNZ v).c = f.c := rfl

theorem sub_eq_zero_byte (a b : Byte) : (a - b == 0#8) = decide (a = b) := by
  rw [Bool.eq_iff_iff, beq_iff_eq, decide_eq_true_eq]
  exact sub_eq_zero

theorem msb_byte (v : Byte) : v.msb = v[7] := by
  rw [BitVec.msb_eq_getLsbD_last]
  rfl

/-- Pulling what was pushed: `SetP(P(b))` gives the six flags back (10_state.md R29). -/
theorem flagsOfByte_statusByte (b : Bool) (f : Flags) : flagsOfByte (statusByte b f) = f := by
  obtain ⟨n, v, d, i, z, c⟩ := f
  cases b <;> cases n <;> cases v <;> cases d <;> cases i <;> cases z <;> cases c <;> rfl


/-! ### The flags a result leaves as they were -/

@[simp] theorem adcResult_d (a m : Byte) (f : Flags) : (adcResult a m f).2.d = f.d := by
  unfold adcResult; split <;> rfl
@[simp] theorem adcResult_i (a m : Byte) (f : Flags) : (adcResult a m f).2.i = f.i := by
  unfold adcResult; split <;> rfl

@[simp] theorem sbcResult_d (a m : Byte) (f : Flags) : (sbcResult a m f).2.d = f.d := by
  unfold sbcResult; split <;> rfl
@[simp] theorem sbcResult_i (a m : Byte) (f : Flags) : (sbcResult a m f).2.i = f.i := by
  unfold sbcResult; split <;> rfl

@[simp] theorem alrResult_v (a m : Byte) (f : Flags) : (alrResult a m f).2.v = f.v := rfl
@[simp] theorem alrResult_d (a m : Byte) (f : Flags) : (alrResult a m f).2.d = f.d := rfl
@[simp] theorem alrResult_i (a m : Byte) (f : Flags) : (alrResult a m f).2.i = f.i := rfl

@[simp] theorem arrResult_d (a m : Byte) (f : Flags) : (arrResult a m f).2.d = f.d := by
  unfold arrResult; split <;> rfl
@[simp] theorem arrResult_i (a m : Byte) (f : Flags) : (arrResult a m f).2.i = f.i := by
  unfold arrResult; split <;> rfl

@[simp] theorem sbxResult_v (a x m : Byte) (f : Flags) : (sbxResult a x m f).2.v = f.v := rfl
@[simp] theorem sbxResult_d (a x m : Byte) (f : Flags) : (sbxResult a x m f).2.d = f.d := rfl
@[simp] theorem sbxResult_i (a x m : Byte) (f : Flags) : (sbxResult a x m f).2.i = f.i := rfl

@[simp] theorem compareFlags_v (reg m : Byte) (f : Flags) : (compareFlags reg m f).v = f.v := rfl
@[simp] theorem compareFlags_d (reg m : Byte) (f : Flags) : (compareFlags reg m f).d = f.d := rfl
@[simp] theorem compareFlags_i (reg m : Byte) (f : Flags) : (compareFlags reg m f).i = f.i := rfl

@[simp] theorem bitFlags_c (a m : Byte) (f : Flags) : (bitFlags a m f).c = f.c := rfl
@[simp] theorem bitFlags_d (a m : Byte) (f : Flags) : (bitFlags a m f).d = f.d := rfl
@[simp] theorem bitFlags_i (a m : Byte) (f : Flags) : (bitFlags a m f).i = f.i := rfl

@[simp] theorem aslByte_v (v : Byte) (f : Flags) : (aslByte v f).2.v = f.v := rfl
@[simp] theorem aslByte_d (v : Byte) (f : Flags) : (aslByte v f).2.d = f.d := rfl
@[simp] theorem aslByte_i (v : Byte) (f : Flags) : (aslByte v f).2.i = f.i := rfl

@[simp] theorem lsrByte_v (v : Byte) (f : Flags) : (lsrByte v f).2.v = f.v := rfl
@[simp] theorem lsrByte_d (v : Byte) (f : Flags) : (lsrByte v f).2.d = f.d := rfl
@[simp] theorem lsrByte_i (v : Byte) (f : Flags) : (lsrByte v f).2.i = f.i := rfl

@[simp] theorem rolByte_v (v : Byte) (f : Flags) : (rolByte v f).2.v = f.v := rfl
@[simp] theorem rolByte_d (v : Byte) (f : Flags) : (rolByte v f).2.d = f.d := rfl
@[simp] theorem rolByte_i (v : Byte) (f : Flags) : (rolByte v f).2.i = f.i := rfl

@[simp] theorem rorByte_v (v : Byte) (f : Flags) : (rorByte v f).2.v = f.v := rfl
@[simp] theorem rorByte_d (v : Byte) (f : Flags) : (rorByte v f).2.d = f.d := rfl
@[simp] theorem rorByte_i (v : Byte) (f : Flags) : (rorByte v f).2.i = f.i := rfl

@[simp] theorem incByte_flags (v : Byte) (f : Flags) : (incByte v f).2 = f := rfl
@[simp] theorem decByte_flags (v : Byte) (f : Flags) : (decByte v f).2 = f := rfl

/-! ### The shapes of an instruction: each answers a next state, and this is the state -/

theorem readOp_eq (base : Nat) (penalty : Bool) (e : Ea) (f : State → Byte → State) :
    readOp base penalty e f = .next
      ((f (e.state.memRead e.addr).2 (e.state.memRead e.addr).1).charge (base + pagePenalty penalty e.crossed)) := rfl

theorem immOp_eq (base : Nat) (d8 : Byte) (s : State) (f : State → Byte → State) :
    immOp base d8 s f = .next ((f s d8).charge base) := rfl

theorem writeOp_eq (base : Nat) (e : Ea) (v : Byte) :
    writeOp base e v = .next ((e.state.memWrite e.addr v).charge base) := rfl

theorem accOp_eq (base : Nat) (s : State) (modify : Byte → Flags → Byte × Flags) :
    accOp base s modify = .next { s with
      a := (modify s.a s.flags).1, flags := (modify s.a s.flags).2.setNZ (modify s.a s.flags).1,
      cycles := s.cycles + base } := rfl

/-- A write does not look at the flags. -/
theorem memWrite_withFlags (s : State) (f : Flags) (a : Addr) (v : Byte) :
    ({ s with flags := f } : State).memWrite a v = { s.memWrite a v with flags := f } := by
  unfold State.memWrite
  split
  · rfl
  · split <;> rfl

theorem rmwOp_eq (base : Nat) (e : Ea) (modify : Byte → Flags → Byte × Flags) (after : State → Byte → State) :
    rmwOp base e modify after = .next ((after
      { (e.state.memRead e.addr).2.memWrite e.addr (modify (e.state.memRead e.addr).1 e.state.flags).1 with
        flags := (modify (e.state.memRead e.addr).1 e.state.flags).2 }
      (modify (e.state.memRead e.addr).1 e.state.flags).1).charge base) := by
  simp only [rmwOp, memWrite_withFlags, memRead_flags]

theorem skipOp_eq (base : Nat) (penalty : Bool) (e : Ea) :
    skipOp base penalty e = .next (e.state.charge (base + pagePenalty penalty e.crossed)) := rfl

theorem impliedOp_eq (base : Nat) (s : State) : impliedOp base s = .next (s.charge base) := rfl

theorem branchOp_eq (cond : Bool) (d8 : Byte) (s : State) :
    branchOp cond d8 s = .next
      (if cond then { s with
          pc := s.pc + signExtend8 d8
          cycles := s.cycles + (2 + 1 + if pageDiffers (s.pc + signExtend8 d8) s.pc then 1 else 0) }
        else { s with cycles := s.cycles + 2 }) := by
  cases cond <;> rfl

/-! ### The parts of a step -/

theorem flush_pending (s : State) : s.flush.pia.notifyPending = false := by
  unfold State.flush
  split
  · rfl
  · rename_i h
    simpa using h

theorem endTurn_next (r : Result) (t : State) (h : endTurn r = .next t) : ∃ u, r = .next u ∧ t = u.flush := by
  cases r with
  | next u => exact ⟨u, rfl, by simpa [endTurn] using h.symm⟩
  | fault e => simp [endTurn] at h
  | refused e => simp [endTurn] at h

end Sys2Proof.Machine
end

