-- ==== Sys2Proof/Laws/Exec.lean ====
section
/-! SUPPORT. What any instruction can do to the memory, the PIA and the output history: only what a series of bus reads and bus writes
does (20_memory.md R60). A property of those three that reads and writes keep is kept by every instruction. -/

namespace Sys2Proof.Machine

/-- A property that looks at nothing but the memory, the PIA and the output history, and that every bus access keeps. -/
structure BusProperty (P : State → Prop) : Prop where
  congr : ∀ s t : State, P s → t.mem = s.mem → t.pia = s.pia → t.output = s.output → P t
  read : ∀ (s : State) (a : Addr), P s → P (s.memRead a).2
  write : ∀ (s : State) (a : Addr) (v : Byte), P s → P (s.memWrite a v)

/-- An operation on registers and flags. -/
def KeepsBus (f : State → Byte → State) : Prop :=
  ∀ (s : State) (m : Byte), (f s m).mem = s.mem ∧ (f s m).pia = s.pia ∧ (f s m).output = s.output

namespace BusProperty

variable {P : State → Prop} (h : BusProperty P)
include h

theorem of_pair {s t : State} (e : t.mem = s.mem ∧ t.pia = s.pia ∧ t.output = s.output) (hs : P s) : P t :=
  h.congr s t hs e.1 e.2.1 e.2.2

theorem push {s : State} (v : Byte) (hs : P s) : P (s.push v) :=
  h.congr _ _ (h.write s (stackAddr s.sp) v hs) rfl rfl rfl

theorem pull {s : State} (hs : P s) : P s.pull.2 := h.read _ _ (h.congr s _ hs rfl rfl rfl)

theorem read16 {s : State} (a : Addr) (hs : P s) : P (s.read16 a).2 := h.read _ _ (h.read _ _ hs)

theorem readPointer {s : State} (a : Addr) (hs : P s) : P (s.readPointer a).2 := h.read _ _ (h.read _ _ hs)

theorem interrupt {s : State} (vector : Addr) (b : Bool) (hs : P s) : P (s.interrupt vector b) := by
  have h3 := h.push (statusByte b s.flags) (h.push (lo s.pc) (h.push (hi s.pc) hs))
  have h4 : P { ((s.push (hi s.pc)).push (lo s.pc)).push (statusByte b s.flags) with
      flags := { (((s.push (hi s.pc)).push (lo s.pc)).push (statusByte b s.flags)).flags with i := true } } :=
    h.congr _ _ h3 rfl rfl rfl
  have h5 := h.read16 vector h4
  exact h.congr _ _ h5 (by simp only [State.interrupt]) (by simp only [State.interrupt]) (by simp only [State.interrupt])

theorem returnFromInterrupt {s : State} (hs : P s) : P s.returnFromInterrupt := by
  have h1 : P { s.pull.2 with flags := flagsOfByte s.pull.1 } := h.congr _ _ (h.pull hs) rfl rfl rfl
  have h3 := h.pull (h.pull h1)
  exact h.congr _ _ h3 (by simp only [State.returnFromInterrupt]) (by simp only [State.returnFromInterrupt])
    (by simp only [State.returnFromInterrupt])

theorem impliedOp {base : Nat} {s t : State} (hs : P s) (ht : impliedOp base s = .next t) : P t := by
  cases ht
  exact h.congr _ _ hs rfl rfl rfl

theorem readOp {base : Nat} {penalty : Bool} {e : Ea} {f : State → Byte → State} {t : State} (hf : KeepsBus f)
    (he : P e.state) (ht : readOp base penalty e f = .next t) : P t := by
  cases ht
  exact h.of_pair (hf _ _) (h.read _ _ he)

theorem immOp {base : Nat} {d8 : Byte} {s t : State} {f : State → Byte → State} (hf : KeepsBus f) (hs : P s)
    (ht : immOp base d8 s f = .next t) : P t := by
  cases ht
  exact h.of_pair (hf _ _) hs

theorem writeOp {base : Nat} {e : Ea} {v : Byte} {t : State} (he : P e.state) (ht : writeOp base e v = .next t) : P t := by
  cases ht
  exact h.congr _ _ (h.write _ _ _ he) rfl rfl rfl

theorem rmwOp {base : Nat} {e : Ea} {modify : Byte → Flags → Byte × Flags} {after : State → Byte → State} {t : State}
    (hf : KeepsBus after) (he : P e.state) (ht : rmwOp base e modify after = .next t) : P t := by
  cases ht
  exact h.of_pair (hf _ _) (h.write _ _ _ (h.congr _ _ (h.read _ _ he) rfl rfl rfl))

theorem skipOp {base : Nat} {penalty : Bool} {e : Ea} {t : State} (he : P e.state)
    (ht : skipOp base penalty e = .next t) : P t := by
  cases ht
  exact h.congr _ _ he rfl rfl rfl

theorem accOp {base : Nat} {s t : State} {modify : Byte → Flags → Byte × Flags} (hs : P s)
    (ht : accOp base s modify = .next t) : P t := by
  cases ht
  exact h.congr _ _ hs rfl rfl rfl

theorem branchOp {cond : Bool} {d8 : Byte} {s t : State} (hs : P s) (ht : branchOp cond d8 s = .next t) : P t := by
  cases cond <;> cases ht <;> exact h.congr _ _ hs rfl rfl rfl

theorem jumpOp {base : Nat} {e : Ea} {t : State} (he : P e.state) (ht : jumpOp base e = .next t) : P t := by
  cases ht
  exact h.congr _ _ he rfl rfl rfl

/-- Every instruction keeps a bus property. -/
theorem exec {i : Instr} {s t : State} (ht : exec i s = .next t) (hs : P s) : P t := by
  cases i
  case aslAcc | rolAcc | lsrAcc | rorAcc =>
    exact h.accOp hs ht
  case bpl _ | bmi _ | bvc _ | bvs _ | bcc _ | bcs _ | bne _ | beq _ =>
    exact h.branchOp hs ht
  case oraImm _ | anc0B _ | andImm _ | anc2B _ | eorImm _ | alr _ | adcImm _ | arr _ | ldyImm _ | ldxImm _ | ldaImm _ | cpyImm _ |
      cmpImm _ | sbx _ | cpxImm _ | sbcImm _ | usbc _ =>
    exact h.immOp (by exact fun _ _ => ⟨rfl, rfl, rfl⟩) hs ht
  case clc | sec | cli | sei | dey | txa | tya | txs | tay | tax | clv | tsx | iny | dex | cld | inx | sed =>
    exact h.impliedOp (by exact h.congr s _ hs rfl rfl rfl) ht
  case nop02 | nop12 | nop1A | nop22 | nop32 | nop3A | nop42 | nop52 | nop5A | nop62 | nop72 | nop7A | nop80 _ | nop82 _ | nop89 _
      | nop8B _ | nop92 | nopAB _ | nopB2 | nopC2 _ | nopD2 | nopDA | nopE2 _ | nop | nopF2 | nopFA =>
    exact h.impliedOp hs ht
  case jmpAbs _ =>
    exact h.jumpOp hs ht
  case jmpInd _ =>
    exact h.jumpOp (by exact h.readPointer _ hs) ht
  case php | pha =>
    exact h.impliedOp (by exact h.push _ hs) ht
  case oraZp _ | oraAbs _ | oraZpx _ | oraAby _ | oraAbx _ | bitZp _ | andZp _ | bitAbs _ | andAbs _ | andZpx _ | andAby _ |
      andAbx _ | eorZp _ | eorAbs _ | eorZpx _ | eorAby _ | eorAbx _ | adcZp _ | adcAbs _ | adcZpx _ | adcAby _ | adcAbx _ | ldyZp
      _ | ldaZp _ | ldxZp _ | laxZp _ | ldyAbs _ | ldaAbs _ | ldxAbs _ | laxAbs _ | ldyZpx _ | ldaZpx _ | ldxZpy _ | laxZpy _ |
      ldaAby _ | las _ | ldyAbx _ | ldaAbx _ | ldxAby _ | laxAby _ | cpyZp _ | cmpZp _ | cpyAbs _ | cmpAbs _ | cmpZpx _ | cmpAby _
      | cmpAbx _ | cpxZp _ | sbcZp _ | cpxAbs _ | sbcAbs _ | sbcZpx _ | sbcAby _ | sbcAbx _ =>
    exact h.readOp (by exact fun _ _ => ⟨rfl, rfl, rfl⟩) hs ht
  case oraIzx _ | oraIzy _ | andIzx _ | andIzy _ | eorIzx _ | eorIzy _ | adcIzx _ | adcIzy _ | ldaIzx _ | laxIzx _ | ldaIzy _ |
      laxIzy _ | cmpIzx _ | cmpIzy _ | sbcIzx _ | sbcIzy _ =>
    exact h.readOp (by exact fun _ _ => ⟨rfl, rfl, rfl⟩) (by exact h.readPointer _ hs) ht
  case aslZp _ | sloZp _ | aslAbs _ | sloAbs _ | aslZpx _ | sloZpx _ | sloAby _ | aslAbx _ | sloAbx _ | rolZp _ | rlaZp _ | rolAbs
      _ | rlaAbs _ | rolZpx _ | rlaZpx _ | rlaAby _ | rolAbx _ | rlaAbx _ | lsrZp _ | sreZp _ | lsrAbs _ | sreAbs _ | lsrZpx _ |
      sreZpx _ | sreAby _ | lsrAbx _ | sreAbx _ | rorZp _ | rraZp _ | rorAbs _ | rraAbs _ | rorZpx _ | rraZpx _ | rraAby _ |
      rorAbx _ | rraAbx _ | decZp _ | dcpZp _ | decAbs _ | dcpAbs _ | decZpx _ | dcpZpx _ | dcpAby _ | decAbx _ | dcpAbx _ | incZp
      _ | iscZp _ | incAbs _ | iscAbs _ | incZpx _ | iscZpx _ | iscAby _ | incAbx _ | iscAbx _ =>
    exact h.rmwOp (by exact fun _ _ => ⟨rfl, rfl, rfl⟩) hs ht
  case sloIzx _ | sloIzy _ | rlaIzx _ | rlaIzy _ | sreIzx _ | sreIzy _ | rraIzx _ | rraIzy _ | dcpIzx _ | dcpIzy _ | iscIzx _ |
      iscIzy _ =>
    exact h.rmwOp (by exact fun _ _ => ⟨rfl, rfl, rfl⟩) (by exact h.readPointer _ hs) ht
  case nop04 _ | nop0C _ | nop14 _ | nop1C _ | nop34 _ | nop3C _ | nop44 _ | nop54 _ | nop5C _ | nop64 _ | nop74 _ | nop7C _ |
      nop9B _ | nop9C _ | nop9E _ | nop9F _ | nopD4 _ | nopDC _ | nopF4 _ | nopFC _ =>
    exact h.skipOp hs ht
  case nop93 _ =>
    exact h.skipOp (by exact h.readPointer _ hs) ht
  case styZp _ | staZp _ | stxZp _ | saxZp _ | styAbs _ | staAbs _ | stxAbs _ | saxAbs _ | styZpx _ | staZpx _ | stxZpy _ | saxZpy
      _ | staAby _ | staAbx _ =>
    exact h.writeOp hs ht
  case staIzx _ | saxIzx _ | staIzy _ =>
    exact h.writeOp (by exact h.readPointer _ hs) ht
  case brk =>
    cases ht
    have h1 : P { s with pc := s.pc + 1 } := h.congr s _ hs rfl rfl rfl
    exact h.congr _ _ (h.interrupt irqVector true h1) rfl rfl rfl
  case rti => cases ht; exact h.congr _ _ (h.returnFromInterrupt hs) rfl rfl rfl
  case rts => cases ht; exact h.congr _ _ (h.pull (h.pull hs)) rfl rfl rfl
  case jsr => cases ht; exact h.congr _ _ (h.push _ (h.push _ hs)) rfl rfl rfl
  case pla => cases ht; exact h.congr _ _ (h.pull hs) rfl rfl rfl
  case plp => cases ht; exact h.congr _ _ (h.pull hs) rfl rfl rfl

end BusProperty

end Sys2Proof.Machine
end

