-- ==== Sys2Proof/Laws/PerInstr.lean ====
section
/-! SUPPORT. The families of statements made per instruction (LAWS.json), one lemma per constructor. -/

namespace Sys2Proof.Laws

/-- Decoding the bytes of an instruction, with anything behind them, gives that instruction and what is behind
(30_encoding.md R100, R101). -/
def RoundTrip.Statement (i : Instr) : Prop := ∀ rest : List Byte, decode (encode i ++ rest) = .ok (i, rest)

theorem RoundTrip.of_f3 (k : Addr → Instr) (op : Byte) (h : (rowOf op).build = .f3 k) (a : Addr) (rest : List Byte) :
    decode (op :: lo a :: hi a :: rest) = .ok (k a, rest) := by
  simp [decode, h]

theorem RoundTrip.brk : RoundTrip.Statement .brk := fun _ => rfl
theorem RoundTrip.oraIzx (d8 : Byte) : RoundTrip.Statement (.oraIzx d8) := fun _ => rfl
theorem RoundTrip.nop02 : RoundTrip.Statement .nop02 := fun _ => rfl
theorem RoundTrip.sloIzx (d8 : Byte) : RoundTrip.Statement (.sloIzx d8) := fun _ => rfl
theorem RoundTrip.nop04 (d8 : Byte) : RoundTrip.Statement (.nop04 d8) := fun _ => rfl
theorem RoundTrip.oraZp (d8 : Byte) : RoundTrip.Statement (.oraZp d8) := fun _ => rfl
theorem RoundTrip.aslZp (d8 : Byte) : RoundTrip.Statement (.aslZp d8) := fun _ => rfl
theorem RoundTrip.sloZp (d8 : Byte) : RoundTrip.Statement (.sloZp d8) := fun _ => rfl
theorem RoundTrip.php : RoundTrip.Statement .php := fun _ => rfl
theorem RoundTrip.oraImm (d8 : Byte) : RoundTrip.Statement (.oraImm d8) := fun _ => rfl
theorem RoundTrip.aslAcc : RoundTrip.Statement .aslAcc := fun _ => rfl
theorem RoundTrip.anc0B (d8 : Byte) : RoundTrip.Statement (.anc0B d8) := fun _ => rfl
theorem RoundTrip.nop0C (a16 : Addr) : RoundTrip.Statement (.nop0C a16) := RoundTrip.of_f3 .nop0C 0x0C rfl a16
theorem RoundTrip.oraAbs (a16 : Addr) : RoundTrip.Statement (.oraAbs a16) := RoundTrip.of_f3 .oraAbs 0x0D rfl a16
theorem RoundTrip.aslAbs (a16 : Addr) : RoundTrip.Statement (.aslAbs a16) := RoundTrip.of_f3 .aslAbs 0x0E rfl a16
theorem RoundTrip.sloAbs (a16 : Addr) : RoundTrip.Statement (.sloAbs a16) := RoundTrip.of_f3 .sloAbs 0x0F rfl a16
theorem RoundTrip.bpl (d8 : Byte) : RoundTrip.Statement (.bpl d8) := fun _ => rfl
theorem RoundTrip.oraIzy (d8 : Byte) : RoundTrip.Statement (.oraIzy d8) := fun _ => rfl
theorem RoundTrip.nop12 : RoundTrip.Statement .nop12 := fun _ => rfl
theorem RoundTrip.sloIzy (d8 : Byte) : RoundTrip.Statement (.sloIzy d8) := fun _ => rfl
theorem RoundTrip.nop14 (d8 : Byte) : RoundTrip.Statement (.nop14 d8) := fun _ => rfl
theorem RoundTrip.oraZpx (d8 : Byte) : RoundTrip.Statement (.oraZpx d8) := fun _ => rfl
theorem RoundTrip.aslZpx (d8 : Byte) : RoundTrip.Statement (.aslZpx d8) := fun _ => rfl
theorem RoundTrip.sloZpx (d8 : Byte) : RoundTrip.Statement (.sloZpx d8) := fun _ => rfl
theorem RoundTrip.clc : RoundTrip.Statement .clc := fun _ => rfl
theorem RoundTrip.oraAby (a16 : Addr) : RoundTrip.Statement (.oraAby a16) := RoundTrip.of_f3 .oraAby 0x19 rfl a16
theorem RoundTrip.nop1A : RoundTrip.Statement .nop1A := fun _ => rfl
theorem RoundTrip.sloAby (a16 : Addr) : RoundTrip.Statement (.sloAby a16) := RoundTrip.of_f3 .sloAby 0x1B rfl a16
theorem RoundTrip.nop1C (a16 : Addr) : RoundTrip.Statement (.nop1C a16) := RoundTrip.of_f3 .nop1C 0x1C rfl a16
theorem RoundTrip.oraAbx (a16 : Addr) : RoundTrip.Statement (.oraAbx a16) := RoundTrip.of_f3 .oraAbx 0x1D rfl a16
theorem RoundTrip.aslAbx (a16 : Addr) : RoundTrip.Statement (.aslAbx a16) := RoundTrip.of_f3 .aslAbx 0x1E rfl a16
theorem RoundTrip.sloAbx (a16 : Addr) : RoundTrip.Statement (.sloAbx a16) := RoundTrip.of_f3 .sloAbx 0x1F rfl a16
theorem RoundTrip.jsr (a16 : Addr) : RoundTrip.Statement (.jsr a16) := RoundTrip.of_f3 .jsr 0x20 rfl a16
theorem RoundTrip.andIzx (d8 : Byte) : RoundTrip.Statement (.andIzx d8) := fun _ => rfl
theorem RoundTrip.nop22 : RoundTrip.Statement .nop22 := fun _ => rfl
theorem RoundTrip.rlaIzx (d8 : Byte) : RoundTrip.Statement (.rlaIzx d8) := fun _ => rfl
theorem RoundTrip.bitZp (d8 : Byte) : RoundTrip.Statement (.bitZp d8) := fun _ => rfl
theorem RoundTrip.andZp (d8 : Byte) : RoundTrip.Statement (.andZp d8) := fun _ => rfl
theorem RoundTrip.rolZp (d8 : Byte) : RoundTrip.Statement (.rolZp d8) := fun _ => rfl
theorem RoundTrip.rlaZp (d8 : Byte) : RoundTrip.Statement (.rlaZp d8) := fun _ => rfl
theorem RoundTrip.plp : RoundTrip.Statement .plp := fun _ => rfl
theorem RoundTrip.andImm (d8 : Byte) : RoundTrip.Statement (.andImm d8) := fun _ => rfl
theorem RoundTrip.rolAcc : RoundTrip.Statement .rolAcc := fun _ => rfl
theorem RoundTrip.anc2B (d8 : Byte) : RoundTrip.Statement (.anc2B d8) := fun _ => rfl
theorem RoundTrip.bitAbs (a16 : Addr) : RoundTrip.Statement (.bitAbs a16) := RoundTrip.of_f3 .bitAbs 0x2C rfl a16
theorem RoundTrip.andAbs (a16 : Addr) : RoundTrip.Statement (.andAbs a16) := RoundTrip.of_f3 .andAbs 0x2D rfl a16
theorem RoundTrip.rolAbs (a16 : Addr) : RoundTrip.Statement (.rolAbs a16) := RoundTrip.of_f3 .rolAbs 0x2E rfl a16
theorem RoundTrip.rlaAbs (a16 : Addr) : RoundTrip.Statement (.rlaAbs a16) := RoundTrip.of_f3 .rlaAbs 0x2F rfl a16
theorem RoundTrip.bmi (d8 : Byte) : RoundTrip.Statement (.bmi d8) := fun _ => rfl
theorem RoundTrip.andIzy (d8 : Byte) : RoundTrip.Statement (.andIzy d8) := fun _ => rfl
theorem RoundTrip.nop32 : RoundTrip.Statement .nop32 := fun _ => rfl
theorem RoundTrip.rlaIzy (d8 : Byte) : RoundTrip.Statement (.rlaIzy d8) := fun _ => rfl
theorem RoundTrip.nop34 (d8 : Byte) : RoundTrip.Statement (.nop34 d8) := fun _ => rfl
theorem RoundTrip.andZpx (d8 : Byte) : RoundTrip.Statement (.andZpx d8) := fun _ => rfl
theorem RoundTrip.rolZpx (d8 : Byte) : RoundTrip.Statement (.rolZpx d8) := fun _ => rfl
theorem RoundTrip.rlaZpx (d8 : Byte) : RoundTrip.Statement (.rlaZpx d8) := fun _ => rfl
theorem RoundTrip.sec : RoundTrip.Statement .sec := fun _ => rfl
theorem RoundTrip.andAby (a16 : Addr) : RoundTrip.Statement (.andAby a16) := RoundTrip.of_f3 .andAby 0x39 rfl a16
theorem RoundTrip.nop3A : RoundTrip.Statement .nop3A := fun _ => rfl
theorem RoundTrip.rlaAby (a16 : Addr) : RoundTrip.Statement (.rlaAby a16) := RoundTrip.of_f3 .rlaAby 0x3B rfl a16
theorem RoundTrip.nop3C (a16 : Addr) : RoundTrip.Statement (.nop3C a16) := RoundTrip.of_f3 .nop3C 0x3C rfl a16
theorem RoundTrip.andAbx (a16 : Addr) : RoundTrip.Statement (.andAbx a16) := RoundTrip.of_f3 .andAbx 0x3D rfl a16
theorem RoundTrip.rolAbx (a16 : Addr) : RoundTrip.Statement (.rolAbx a16) := RoundTrip.of_f3 .rolAbx 0x3E rfl a16
theorem RoundTrip.rlaAbx (a16 : Addr) : RoundTrip.Statement (.rlaAbx a16) := RoundTrip.of_f3 .rlaAbx 0x3F rfl a16
theorem RoundTrip.rti : RoundTrip.Statement .rti := fun _ => rfl
theorem RoundTrip.eorIzx (d8 : Byte) : RoundTrip.Statement (.eorIzx d8) := fun _ => rfl
theorem RoundTrip.nop42 : RoundTrip.Statement .nop42 := fun _ => rfl
theorem RoundTrip.sreIzx (d8 : Byte) : RoundTrip.Statement (.sreIzx d8) := fun _ => rfl
theorem RoundTrip.nop44 (d8 : Byte) : RoundTrip.Statement (.nop44 d8) := fun _ => rfl
theorem RoundTrip.eorZp (d8 : Byte) : RoundTrip.Statement (.eorZp d8) := fun _ => rfl
theorem RoundTrip.lsrZp (d8 : Byte) : RoundTrip.Statement (.lsrZp d8) := fun _ => rfl
theorem RoundTrip.sreZp (d8 : Byte) : RoundTrip.Statement (.sreZp d8) := fun _ => rfl
theorem RoundTrip.pha : RoundTrip.Statement .pha := fun _ => rfl
theorem RoundTrip.eorImm (d8 : Byte) : RoundTrip.Statement (.eorImm d8) := fun _ => rfl
theorem RoundTrip.lsrAcc : RoundTrip.Statement .lsrAcc := fun _ => rfl
theorem RoundTrip.alr (d8 : Byte) : RoundTrip.Statement (.alr d8) := fun _ => rfl
theorem RoundTrip.jmpAbs (a16 : Addr) : RoundTrip.Statement (.jmpAbs a16) := RoundTrip.of_f3 .jmpAbs 0x4C rfl a16
theorem RoundTrip.eorAbs (a16 : Addr) : RoundTrip.Statement (.eorAbs a16) := RoundTrip.of_f3 .eorAbs 0x4D rfl a16
theorem RoundTrip.lsrAbs (a16 : Addr) : RoundTrip.Statement (.lsrAbs a16) := RoundTrip.of_f3 .lsrAbs 0x4E rfl a16
theorem RoundTrip.sreAbs (a16 : Addr) : RoundTrip.Statement (.sreAbs a16) := RoundTrip.of_f3 .sreAbs 0x4F rfl a16
theorem RoundTrip.bvc (d8 : Byte) : RoundTrip.Statement (.bvc d8) := fun _ => rfl
theorem RoundTrip.eorIzy (d8 : Byte) : RoundTrip.Statement (.eorIzy d8) := fun _ => rfl
theorem RoundTrip.nop52 : RoundTrip.Statement .nop52 := fun _ => rfl
theorem RoundTrip.sreIzy (d8 : Byte) : RoundTrip.Statement (.sreIzy d8) := fun _ => rfl
theorem RoundTrip.nop54 (d8 : Byte) : RoundTrip.Statement (.nop54 d8) := fun _ => rfl
theorem RoundTrip.eorZpx (d8 : Byte) : RoundTrip.Statement (.eorZpx d8) := fun _ => rfl
theorem RoundTrip.lsrZpx (d8 : Byte) : RoundTrip.Statement (.lsrZpx d8) := fun _ => rfl
theorem RoundTrip.sreZpx (d8 : Byte) : RoundTrip.Statement (.sreZpx d8) := fun _ => rfl
theorem RoundTrip.cli : RoundTrip.Statement .cli := fun _ => rfl
theorem RoundTrip.eorAby (a16 : Addr) : RoundTrip.Statement (.eorAby a16) := RoundTrip.of_f3 .eorAby 0x59 rfl a16
theorem RoundTrip.nop5A : RoundTrip.Statement .nop5A := fun _ => rfl
theorem RoundTrip.sreAby (a16 : Addr) : RoundTrip.Statement (.sreAby a16) := RoundTrip.of_f3 .sreAby 0x5B rfl a16
theorem RoundTrip.nop5C (a16 : Addr) : RoundTrip.Statement (.nop5C a16) := RoundTrip.of_f3 .nop5C 0x5C rfl a16
theorem RoundTrip.eorAbx (a16 : Addr) : RoundTrip.Statement (.eorAbx a16) := RoundTrip.of_f3 .eorAbx 0x5D rfl a16
theorem RoundTrip.lsrAbx (a16 : Addr) : RoundTrip.Statement (.lsrAbx a16) := RoundTrip.of_f3 .lsrAbx 0x5E rfl a16
theorem RoundTrip.sreAbx (a16 : Addr) : RoundTrip.Statement (.sreAbx a16) := RoundTrip.of_f3 .sreAbx 0x5F rfl a16
theorem RoundTrip.rts : RoundTrip.Statement .rts := fun _ => rfl
theorem RoundTrip.adcIzx (d8 : Byte) : RoundTrip.Statement (.adcIzx d8) := fun _ => rfl
theorem RoundTrip.nop62 : RoundTrip.Statement .nop62 := fun _ => rfl
theorem RoundTrip.rraIzx (d8 : Byte) : RoundTrip.Statement (.rraIzx d8) := fun _ => rfl
theorem RoundTrip.nop64 (d8 : Byte) : RoundTrip.Statement (.nop64 d8) := fun _ => rfl
theorem RoundTrip.adcZp (d8 : Byte) : RoundTrip.Statement (.adcZp d8) := fun _ => rfl
theorem RoundTrip.rorZp (d8 : Byte) : RoundTrip.Statement (.rorZp d8) := fun _ => rfl
theorem RoundTrip.rraZp (d8 : Byte) : RoundTrip.Statement (.rraZp d8) := fun _ => rfl
theorem RoundTrip.pla : RoundTrip.Statement .pla := fun _ => rfl
theorem RoundTrip.adcImm (d8 : Byte) : RoundTrip.Statement (.adcImm d8) := fun _ => rfl
theorem RoundTrip.rorAcc : RoundTrip.Statement .rorAcc := fun _ => rfl
theorem RoundTrip.arr (d8 : Byte) : RoundTrip.Statement (.arr d8) := fun _ => rfl
theorem RoundTrip.jmpInd (a16 : Addr) : RoundTrip.Statement (.jmpInd a16) := RoundTrip.of_f3 .jmpInd 0x6C rfl a16
theorem RoundTrip.adcAbs (a16 : Addr) : RoundTrip.Statement (.adcAbs a16) := RoundTrip.of_f3 .adcAbs 0x6D rfl a16
theorem RoundTrip.rorAbs (a16 : Addr) : RoundTrip.Statement (.rorAbs a16) := RoundTrip.of_f3 .rorAbs 0x6E rfl a16
theorem RoundTrip.rraAbs (a16 : Addr) : RoundTrip.Statement (.rraAbs a16) := RoundTrip.of_f3 .rraAbs 0x6F rfl a16
theorem RoundTrip.bvs (d8 : Byte) : RoundTrip.Statement (.bvs d8) := fun _ => rfl
theorem RoundTrip.adcIzy (d8 : Byte) : RoundTrip.Statement (.adcIzy d8) := fun _ => rfl
theorem RoundTrip.nop72 : RoundTrip.Statement .nop72 := fun _ => rfl
theorem RoundTrip.rraIzy (d8 : Byte) : RoundTrip.Statement (.rraIzy d8) := fun _ => rfl
theorem RoundTrip.nop74 (d8 : Byte) : RoundTrip.Statement (.nop74 d8) := fun _ => rfl
theorem RoundTrip.adcZpx (d8 : Byte) : RoundTrip.Statement (.adcZpx d8) := fun _ => rfl
theorem RoundTrip.rorZpx (d8 : Byte) : RoundTrip.Statement (.rorZpx d8) := fun _ => rfl
theorem RoundTrip.rraZpx (d8 : Byte) : RoundTrip.Statement (.rraZpx d8) := fun _ => rfl
theorem RoundTrip.sei : RoundTrip.Statement .sei := fun _ => rfl
theorem RoundTrip.adcAby (a16 : Addr) : RoundTrip.Statement (.adcAby a16) := RoundTrip.of_f3 .adcAby 0x79 rfl a16
theorem RoundTrip.nop7A : RoundTrip.Statement .nop7A := fun _ => rfl
theorem RoundTrip.rraAby (a16 : Addr) : RoundTrip.Statement (.rraAby a16) := RoundTrip.of_f3 .rraAby 0x7B rfl a16
theorem RoundTrip.nop7C (a16 : Addr) : RoundTrip.Statement (.nop7C a16) := RoundTrip.of_f3 .nop7C 0x7C rfl a16
theorem RoundTrip.adcAbx (a16 : Addr) : RoundTrip.Statement (.adcAbx a16) := RoundTrip.of_f3 .adcAbx 0x7D rfl a16
theorem RoundTrip.rorAbx (a16 : Addr) : RoundTrip.Statement (.rorAbx a16) := RoundTrip.of_f3 .rorAbx 0x7E rfl a16
theorem RoundTrip.rraAbx (a16 : Addr) : RoundTrip.Statement (.rraAbx a16) := RoundTrip.of_f3 .rraAbx 0x7F rfl a16
theorem RoundTrip.nop80 (d8 : Byte) : RoundTrip.Statement (.nop80 d8) := fun _ => rfl
theorem RoundTrip.staIzx (d8 : Byte) : RoundTrip.Statement (.staIzx d8) := fun _ => rfl
theorem RoundTrip.nop82 (d8 : Byte) : RoundTrip.Statement (.nop82 d8) := fun _ => rfl
theorem RoundTrip.saxIzx (d8 : Byte) : RoundTrip.Statement (.saxIzx d8) := fun _ => rfl
theorem RoundTrip.styZp (d8 : Byte) : RoundTrip.Statement (.styZp d8) := fun _ => rfl
theorem RoundTrip.staZp (d8 : Byte) : RoundTrip.Statement (.staZp d8) := fun _ => rfl
theorem RoundTrip.stxZp (d8 : Byte) : RoundTrip.Statement (.stxZp d8) := fun _ => rfl
theorem RoundTrip.saxZp (d8 : Byte) : RoundTrip.Statement (.saxZp d8) := fun _ => rfl
theorem RoundTrip.dey : RoundTrip.Statement .dey := fun _ => rfl
theorem RoundTrip.nop89 (d8 : Byte) : RoundTrip.Statement (.nop89 d8) := fun _ => rfl
theorem RoundTrip.txa : RoundTrip.Statement .txa := fun _ => rfl
theorem RoundTrip.nop8B (d8 : Byte) : RoundTrip.Statement (.nop8B d8) := fun _ => rfl
theorem RoundTrip.styAbs (a16 : Addr) : RoundTrip.Statement (.styAbs a16) := RoundTrip.of_f3 .styAbs 0x8C rfl a16
theorem RoundTrip.staAbs (a16 : Addr) : RoundTrip.Statement (.staAbs a16) := RoundTrip.of_f3 .staAbs 0x8D rfl a16
theorem RoundTrip.stxAbs (a16 : Addr) : RoundTrip.Statement (.stxAbs a16) := RoundTrip.of_f3 .stxAbs 0x8E rfl a16
theorem RoundTrip.saxAbs (a16 : Addr) : RoundTrip.Statement (.saxAbs a16) := RoundTrip.of_f3 .saxAbs 0x8F rfl a16
theorem RoundTrip.bcc (d8 : Byte) : RoundTrip.Statement (.bcc d8) := fun _ => rfl
theorem RoundTrip.staIzy (d8 : Byte) : RoundTrip.Statement (.staIzy d8) := fun _ => rfl
theorem RoundTrip.nop92 : RoundTrip.Statement .nop92 := fun _ => rfl
theorem RoundTrip.nop93 (d8 : Byte) : RoundTrip.Statement (.nop93 d8) := fun _ => rfl
theorem RoundTrip.styZpx (d8 : Byte) : RoundTrip.Statement (.styZpx d8) := fun _ => rfl
theorem RoundTrip.staZpx (d8 : Byte) : RoundTrip.Statement (.staZpx d8) := fun _ => rfl
theorem RoundTrip.stxZpy (d8 : Byte) : RoundTrip.Statement (.stxZpy d8) := fun _ => rfl
theorem RoundTrip.saxZpy (d8 : Byte) : RoundTrip.Statement (.saxZpy d8) := fun _ => rfl
theorem RoundTrip.tya : RoundTrip.Statement .tya := fun _ => rfl
theorem RoundTrip.staAby (a16 : Addr) : RoundTrip.Statement (.staAby a16) := RoundTrip.of_f3 .staAby 0x99 rfl a16
theorem RoundTrip.txs : RoundTrip.Statement .txs := fun _ => rfl
theorem RoundTrip.nop9B (a16 : Addr) : RoundTrip.Statement (.nop9B a16) := RoundTrip.of_f3 .nop9B 0x9B rfl a16
theorem RoundTrip.nop9C (a16 : Addr) : RoundTrip.Statement (.nop9C a16) := RoundTrip.of_f3 .nop9C 0x9C rfl a16
theorem RoundTrip.staAbx (a16 : Addr) : RoundTrip.Statement (.staAbx a16) := RoundTrip.of_f3 .staAbx 0x9D rfl a16
theorem RoundTrip.nop9E (a16 : Addr) : RoundTrip.Statement (.nop9E a16) := RoundTrip.of_f3 .nop9E 0x9E rfl a16
theorem RoundTrip.nop9F (a16 : Addr) : RoundTrip.Statement (.nop9F a16) := RoundTrip.of_f3 .nop9F 0x9F rfl a16
theorem RoundTrip.ldyImm (d8 : Byte) : RoundTrip.Statement (.ldyImm d8) := fun _ => rfl
theorem RoundTrip.ldaIzx (d8 : Byte) : RoundTrip.Statement (.ldaIzx d8) := fun _ => rfl
theorem RoundTrip.ldxImm (d8 : Byte) : RoundTrip.Statement (.ldxImm d8) := fun _ => rfl
theorem RoundTrip.laxIzx (d8 : Byte) : RoundTrip.Statement (.laxIzx d8) := fun _ => rfl
theorem RoundTrip.ldyZp (d8 : Byte) : RoundTrip.Statement (.ldyZp d8) := fun _ => rfl
theorem RoundTrip.ldaZp (d8 : Byte) : RoundTrip.Statement (.ldaZp d8) := fun _ => rfl
theorem RoundTrip.ldxZp (d8 : Byte) : RoundTrip.Statement (.ldxZp d8) := fun _ => rfl
theorem RoundTrip.laxZp (d8 : Byte) : RoundTrip.Statement (.laxZp d8) := fun _ => rfl
theorem RoundTrip.tay : RoundTrip.Statement .tay := fun _ => rfl
theorem RoundTrip.ldaImm (d8 : Byte) : RoundTrip.Statement (.ldaImm d8) := fun _ => rfl
theorem RoundTrip.tax : RoundTrip.Statement .tax := fun _ => rfl
theorem RoundTrip.nopAB (d8 : Byte) : RoundTrip.Statement (.nopAB d8) := fun _ => rfl
theorem RoundTrip.ldyAbs (a16 : Addr) : RoundTrip.Statement (.ldyAbs a16) := RoundTrip.of_f3 .ldyAbs 0xAC rfl a16
theorem RoundTrip.ldaAbs (a16 : Addr) : RoundTrip.Statement (.ldaAbs a16) := RoundTrip.of_f3 .ldaAbs 0xAD rfl a16
theorem RoundTrip.ldxAbs (a16 : Addr) : RoundTrip.Statement (.ldxAbs a16) := RoundTrip.of_f3 .ldxAbs 0xAE rfl a16
theorem RoundTrip.laxAbs (a16 : Addr) : RoundTrip.Statement (.laxAbs a16) := RoundTrip.of_f3 .laxAbs 0xAF rfl a16
theorem RoundTrip.bcs (d8 : Byte) : RoundTrip.Statement (.bcs d8) := fun _ => rfl
theorem RoundTrip.ldaIzy (d8 : Byte) : RoundTrip.Statement (.ldaIzy d8) := fun _ => rfl
theorem RoundTrip.nopB2 : RoundTrip.Statement .nopB2 := fun _ => rfl
theorem RoundTrip.laxIzy (d8 : Byte) : RoundTrip.Statement (.laxIzy d8) := fun _ => rfl
theorem RoundTrip.ldyZpx (d8 : Byte) : RoundTrip.Statement (.ldyZpx d8) := fun _ => rfl
theorem RoundTrip.ldaZpx (d8 : Byte) : RoundTrip.Statement (.ldaZpx d8) := fun _ => rfl
theorem RoundTrip.ldxZpy (d8 : Byte) : RoundTrip.Statement (.ldxZpy d8) := fun _ => rfl
theorem RoundTrip.laxZpy (d8 : Byte) : RoundTrip.Statement (.laxZpy d8) := fun _ => rfl
theorem RoundTrip.clv : RoundTrip.Statement .clv := fun _ => rfl
theorem RoundTrip.ldaAby (a16 : Addr) : RoundTrip.Statement (.ldaAby a16) := RoundTrip.of_f3 .ldaAby 0xB9 rfl a16
theorem RoundTrip.tsx : RoundTrip.Statement .tsx := fun _ => rfl
theorem RoundTrip.las (a16 : Addr) : RoundTrip.Statement (.las a16) := RoundTrip.of_f3 .las 0xBB rfl a16
theorem RoundTrip.ldyAbx (a16 : Addr) : RoundTrip.Statement (.ldyAbx a16) := RoundTrip.of_f3 .ldyAbx 0xBC rfl a16
theorem RoundTrip.ldaAbx (a16 : Addr) : RoundTrip.Statement (.ldaAbx a16) := RoundTrip.of_f3 .ldaAbx 0xBD rfl a16
theorem RoundTrip.ldxAby (a16 : Addr) : RoundTrip.Statement (.ldxAby a16) := RoundTrip.of_f3 .ldxAby 0xBE rfl a16
theorem RoundTrip.laxAby (a16 : Addr) : RoundTrip.Statement (.laxAby a16) := RoundTrip.of_f3 .laxAby 0xBF rfl a16
theorem RoundTrip.cpyImm (d8 : Byte) : RoundTrip.Statement (.cpyImm d8) := fun _ => rfl
theorem RoundTrip.cmpIzx (d8 : Byte) : RoundTrip.Statement (.cmpIzx d8) := fun _ => rfl
theorem RoundTrip.nopC2 (d8 : Byte) : RoundTrip.Statement (.nopC2 d8) := fun _ => rfl
theorem RoundTrip.dcpIzx (d8 : Byte) : RoundTrip.Statement (.dcpIzx d8) := fun _ => rfl
theorem RoundTrip.cpyZp (d8 : Byte) : RoundTrip.Statement (.cpyZp d8) := fun _ => rfl
theorem RoundTrip.cmpZp (d8 : Byte) : RoundTrip.Statement (.cmpZp d8) := fun _ => rfl
theorem RoundTrip.decZp (d8 : Byte) : RoundTrip.Statement (.decZp d8) := fun _ => rfl
theorem RoundTrip.dcpZp (d8 : Byte) : RoundTrip.Statement (.dcpZp d8) := fun _ => rfl
theorem RoundTrip.iny : RoundTrip.Statement .iny := fun _ => rfl
theorem RoundTrip.cmpImm (d8 : Byte) : RoundTrip.Statement (.cmpImm d8) := fun _ => rfl
theorem RoundTrip.dex : RoundTrip.Statement .dex := fun _ => rfl
theorem RoundTrip.sbx (d8 : Byte) : RoundTrip.Statement (.sbx d8) := fun _ => rfl
theorem RoundTrip.cpyAbs (a16 : Addr) : RoundTrip.Statement (.cpyAbs a16) := RoundTrip.of_f3 .cpyAbs 0xCC rfl a16
theorem RoundTrip.cmpAbs (a16 : Addr) : RoundTrip.Statement (.cmpAbs a16) := RoundTrip.of_f3 .cmpAbs 0xCD rfl a16
theorem RoundTrip.decAbs (a16 : Addr) : RoundTrip.Statement (.decAbs a16) := RoundTrip.of_f3 .decAbs 0xCE rfl a16
theorem RoundTrip.dcpAbs (a16 : Addr) : RoundTrip.Statement (.dcpAbs a16) := RoundTrip.of_f3 .dcpAbs 0xCF rfl a16
theorem RoundTrip.bne (d8 : Byte) : RoundTrip.Statement (.bne d8) := fun _ => rfl
theorem RoundTrip.cmpIzy (d8 : Byte) : RoundTrip.Statement (.cmpIzy d8) := fun _ => rfl
theorem RoundTrip.nopD2 : RoundTrip.Statement .nopD2 := fun _ => rfl
theorem RoundTrip.dcpIzy (d8 : Byte) : RoundTrip.Statement (.dcpIzy d8) := fun _ => rfl
theorem RoundTrip.nopD4 (d8 : Byte) : RoundTrip.Statement (.nopD4 d8) := fun _ => rfl
theorem RoundTrip.cmpZpx (d8 : Byte) : RoundTrip.Statement (.cmpZpx d8) := fun _ => rfl
theorem RoundTrip.decZpx (d8 : Byte) : RoundTrip.Statement (.decZpx d8) := fun _ => rfl
theorem RoundTrip.dcpZpx (d8 : Byte) : RoundTrip.Statement (.dcpZpx d8) := fun _ => rfl
theorem RoundTrip.cld : RoundTrip.Statement .cld := fun _ => rfl
theorem RoundTrip.cmpAby (a16 : Addr) : RoundTrip.Statement (.cmpAby a16) := RoundTrip.of_f3 .cmpAby 0xD9 rfl a16
theorem RoundTrip.nopDA : RoundTrip.Statement .nopDA := fun _ => rfl
theorem RoundTrip.dcpAby (a16 : Addr) : RoundTrip.Statement (.dcpAby a16) := RoundTrip.of_f3 .dcpAby 0xDB rfl a16
theorem RoundTrip.nopDC (a16 : Addr) : RoundTrip.Statement (.nopDC a16) := RoundTrip.of_f3 .nopDC 0xDC rfl a16
theorem RoundTrip.cmpAbx (a16 : Addr) : RoundTrip.Statement (.cmpAbx a16) := RoundTrip.of_f3 .cmpAbx 0xDD rfl a16
theorem RoundTrip.decAbx (a16 : Addr) : RoundTrip.Statement (.decAbx a16) := RoundTrip.of_f3 .decAbx 0xDE rfl a16
theorem RoundTrip.dcpAbx (a16 : Addr) : RoundTrip.Statement (.dcpAbx a16) := RoundTrip.of_f3 .dcpAbx 0xDF rfl a16
theorem RoundTrip.cpxImm (d8 : Byte) : RoundTrip.Statement (.cpxImm d8) := fun _ => rfl
theorem RoundTrip.sbcIzx (d8 : Byte) : RoundTrip.Statement (.sbcIzx d8) := fun _ => rfl
theorem RoundTrip.nopE2 (d8 : Byte) : RoundTrip.Statement (.nopE2 d8) := fun _ => rfl
theorem RoundTrip.iscIzx (d8 : Byte) : RoundTrip.Statement (.iscIzx d8) := fun _ => rfl
theorem RoundTrip.cpxZp (d8 : Byte) : RoundTrip.Statement (.cpxZp d8) := fun _ => rfl
theorem RoundTrip.sbcZp (d8 : Byte) : RoundTrip.Statement (.sbcZp d8) := fun _ => rfl
theorem RoundTrip.incZp (d8 : Byte) : RoundTrip.Statement (.incZp d8) := fun _ => rfl
theorem RoundTrip.iscZp (d8 : Byte) : RoundTrip.Statement (.iscZp d8) := fun _ => rfl
theorem RoundTrip.inx : RoundTrip.Statement .inx := fun _ => rfl
theorem RoundTrip.sbcImm (d8 : Byte) : RoundTrip.Statement (.sbcImm d8) := fun _ => rfl
theorem RoundTrip.nop : RoundTrip.Statement .nop := fun _ => rfl
theorem RoundTrip.usbc (d8 : Byte) : RoundTrip.Statement (.usbc d8) := fun _ => rfl
theorem RoundTrip.cpxAbs (a16 : Addr) : RoundTrip.Statement (.cpxAbs a16) := RoundTrip.of_f3 .cpxAbs 0xEC rfl a16
theorem RoundTrip.sbcAbs (a16 : Addr) : RoundTrip.Statement (.sbcAbs a16) := RoundTrip.of_f3 .sbcAbs 0xED rfl a16
theorem RoundTrip.incAbs (a16 : Addr) : RoundTrip.Statement (.incAbs a16) := RoundTrip.of_f3 .incAbs 0xEE rfl a16
theorem RoundTrip.iscAbs (a16 : Addr) : RoundTrip.Statement (.iscAbs a16) := RoundTrip.of_f3 .iscAbs 0xEF rfl a16
theorem RoundTrip.beq (d8 : Byte) : RoundTrip.Statement (.beq d8) := fun _ => rfl
theorem RoundTrip.sbcIzy (d8 : Byte) : RoundTrip.Statement (.sbcIzy d8) := fun _ => rfl
theorem RoundTrip.nopF2 : RoundTrip.Statement .nopF2 := fun _ => rfl
theorem RoundTrip.iscIzy (d8 : Byte) : RoundTrip.Statement (.iscIzy d8) := fun _ => rfl
theorem RoundTrip.nopF4 (d8 : Byte) : RoundTrip.Statement (.nopF4 d8) := fun _ => rfl
theorem RoundTrip.sbcZpx (d8 : Byte) : RoundTrip.Statement (.sbcZpx d8) := fun _ => rfl
theorem RoundTrip.incZpx (d8 : Byte) : RoundTrip.Statement (.incZpx d8) := fun _ => rfl
theorem RoundTrip.iscZpx (d8 : Byte) : RoundTrip.Statement (.iscZpx d8) := fun _ => rfl
theorem RoundTrip.sed : RoundTrip.Statement .sed := fun _ => rfl
theorem RoundTrip.sbcAby (a16 : Addr) : RoundTrip.Statement (.sbcAby a16) := RoundTrip.of_f3 .sbcAby 0xF9 rfl a16
theorem RoundTrip.nopFA : RoundTrip.Statement .nopFA := fun _ => rfl
theorem RoundTrip.iscAby (a16 : Addr) : RoundTrip.Statement (.iscAby a16) := RoundTrip.of_f3 .iscAby 0xFB rfl a16
theorem RoundTrip.nopFC (a16 : Addr) : RoundTrip.Statement (.nopFC a16) := RoundTrip.of_f3 .nopFC 0xFC rfl a16
theorem RoundTrip.sbcAbx (a16 : Addr) : RoundTrip.Statement (.sbcAbx a16) := RoundTrip.of_f3 .sbcAbx 0xFD rfl a16
theorem RoundTrip.incAbx (a16 : Addr) : RoundTrip.Statement (.incAbx a16) := RoundTrip.of_f3 .incAbx 0xFE rfl a16
theorem RoundTrip.iscAbx (a16 : Addr) : RoundTrip.Statement (.iscAbx a16) := RoundTrip.of_f3 .iscAbx 0xFF rfl a16

end Sys2Proof.Laws
end

