-- ==== Sys2Proof/Laws/Rows.lean ====
section
/-! SUPPORT. The row of 30_encoding.md R106 that each constructor has, one lemma per constructor, so that no proof evaluates the
opcode map. -/

namespace Sys2Proof

@[simp] theorem Instr.row_brk : Instr.brk.row = ⟨.brk, .imp, 7, false, .f1 .brk⟩ :=
  (rfl : rowOf 0x00 = _)
@[simp] theorem Instr.row_oraIzx (d8 : Byte) : (Instr.oraIzx d8).row = ⟨.ora, .izx, 6, false, .f2 .oraIzx⟩ :=
  (rfl : rowOf 0x01 = _)
@[simp] theorem Instr.row_nop02 : Instr.nop02.row = ⟨.nop, .imp, 2, false, .f1 .nop02⟩ :=
  (rfl : rowOf 0x02 = _)
@[simp] theorem Instr.row_sloIzx (d8 : Byte) : (Instr.sloIzx d8).row = ⟨.slo, .izx, 8, false, .f2 .sloIzx⟩ :=
  (rfl : rowOf 0x03 = _)
@[simp] theorem Instr.row_nop04 (d8 : Byte) : (Instr.nop04 d8).row = ⟨.nop, .zp, 3, false, .f2 .nop04⟩ :=
  (rfl : rowOf 0x04 = _)
@[simp] theorem Instr.row_oraZp (d8 : Byte) : (Instr.oraZp d8).row = ⟨.ora, .zp, 3, false, .f2 .oraZp⟩ :=
  (rfl : rowOf 0x05 = _)
@[simp] theorem Instr.row_aslZp (d8 : Byte) : (Instr.aslZp d8).row = ⟨.asl, .zp, 5, false, .f2 .aslZp⟩ :=
  (rfl : rowOf 0x06 = _)
@[simp] theorem Instr.row_sloZp (d8 : Byte) : (Instr.sloZp d8).row = ⟨.slo, .zp, 5, false, .f2 .sloZp⟩ :=
  (rfl : rowOf 0x07 = _)
@[simp] theorem Instr.row_php : Instr.php.row = ⟨.php, .imp, 3, false, .f1 .php⟩ :=
  (rfl : rowOf 0x08 = _)
@[simp] theorem Instr.row_oraImm (d8 : Byte) : (Instr.oraImm d8).row = ⟨.ora, .imm, 2, false, .f2 .oraImm⟩ :=
  (rfl : rowOf 0x09 = _)
@[simp] theorem Instr.row_aslAcc : Instr.aslAcc.row = ⟨.asl, .acc, 2, false, .f1 .aslAcc⟩ :=
  (rfl : rowOf 0x0A = _)
@[simp] theorem Instr.row_anc0B (d8 : Byte) : (Instr.anc0B d8).row = ⟨.anc, .imm, 2, false, .f2 .anc0B⟩ :=
  (rfl : rowOf 0x0B = _)
@[simp] theorem Instr.row_nop0C (a16 : Addr) : (Instr.nop0C a16).row = ⟨.nop, .abs, 4, false, .f3 .nop0C⟩ :=
  (rfl : rowOf 0x0C = _)
@[simp] theorem Instr.row_oraAbs (a16 : Addr) : (Instr.oraAbs a16).row = ⟨.ora, .abs, 4, false, .f3 .oraAbs⟩ :=
  (rfl : rowOf 0x0D = _)
@[simp] theorem Instr.row_aslAbs (a16 : Addr) : (Instr.aslAbs a16).row = ⟨.asl, .abs, 6, false, .f3 .aslAbs⟩ :=
  (rfl : rowOf 0x0E = _)
@[simp] theorem Instr.row_sloAbs (a16 : Addr) : (Instr.sloAbs a16).row = ⟨.slo, .abs, 6, false, .f3 .sloAbs⟩ :=
  (rfl : rowOf 0x0F = _)
@[simp] theorem Instr.row_bpl (d8 : Byte) : (Instr.bpl d8).row = ⟨.bpl, .rel, 2, true, .f2 .bpl⟩ :=
  (rfl : rowOf 0x10 = _)
@[simp] theorem Instr.row_oraIzy (d8 : Byte) : (Instr.oraIzy d8).row = ⟨.ora, .izy, 5, true, .f2 .oraIzy⟩ :=
  (rfl : rowOf 0x11 = _)
@[simp] theorem Instr.row_nop12 : Instr.nop12.row = ⟨.nop, .imp, 2, false, .f1 .nop12⟩ :=
  (rfl : rowOf 0x12 = _)
@[simp] theorem Instr.row_sloIzy (d8 : Byte) : (Instr.sloIzy d8).row = ⟨.slo, .izy, 8, false, .f2 .sloIzy⟩ :=
  (rfl : rowOf 0x13 = _)
@[simp] theorem Instr.row_nop14 (d8 : Byte) : (Instr.nop14 d8).row = ⟨.nop, .zpx, 4, false, .f2 .nop14⟩ :=
  (rfl : rowOf 0x14 = _)
@[simp] theorem Instr.row_oraZpx (d8 : Byte) : (Instr.oraZpx d8).row = ⟨.ora, .zpx, 4, false, .f2 .oraZpx⟩ :=
  (rfl : rowOf 0x15 = _)
@[simp] theorem Instr.row_aslZpx (d8 : Byte) : (Instr.aslZpx d8).row = ⟨.asl, .zpx, 6, false, .f2 .aslZpx⟩ :=
  (rfl : rowOf 0x16 = _)
@[simp] theorem Instr.row_sloZpx (d8 : Byte) : (Instr.sloZpx d8).row = ⟨.slo, .zpx, 6, false, .f2 .sloZpx⟩ :=
  (rfl : rowOf 0x17 = _)
@[simp] theorem Instr.row_clc : Instr.clc.row = ⟨.clc, .imp, 2, false, .f1 .clc⟩ :=
  (rfl : rowOf 0x18 = _)
@[simp] theorem Instr.row_oraAby (a16 : Addr) : (Instr.oraAby a16).row = ⟨.ora, .aby, 4, true, .f3 .oraAby⟩ :=
  (rfl : rowOf 0x19 = _)
@[simp] theorem Instr.row_nop1A : Instr.nop1A.row = ⟨.nop, .imp, 2, false, .f1 .nop1A⟩ :=
  (rfl : rowOf 0x1A = _)
@[simp] theorem Instr.row_sloAby (a16 : Addr) : (Instr.sloAby a16).row = ⟨.slo, .aby, 7, false, .f3 .sloAby⟩ :=
  (rfl : rowOf 0x1B = _)
@[simp] theorem Instr.row_nop1C (a16 : Addr) : (Instr.nop1C a16).row = ⟨.nop, .abx, 4, true, .f3 .nop1C⟩ :=
  (rfl : rowOf 0x1C = _)
@[simp] theorem Instr.row_oraAbx (a16 : Addr) : (Instr.oraAbx a16).row = ⟨.ora, .abx, 4, true, .f3 .oraAbx⟩ :=
  (rfl : rowOf 0x1D = _)
@[simp] theorem Instr.row_aslAbx (a16 : Addr) : (Instr.aslAbx a16).row = ⟨.asl, .abx, 7, false, .f3 .aslAbx⟩ :=
  (rfl : rowOf 0x1E = _)
@[simp] theorem Instr.row_sloAbx (a16 : Addr) : (Instr.sloAbx a16).row = ⟨.slo, .abx, 7, false, .f3 .sloAbx⟩ :=
  (rfl : rowOf 0x1F = _)
@[simp] theorem Instr.row_jsr (a16 : Addr) : (Instr.jsr a16).row = ⟨.jsr, .abs, 6, false, .f3 .jsr⟩ :=
  (rfl : rowOf 0x20 = _)
@[simp] theorem Instr.row_andIzx (d8 : Byte) : (Instr.andIzx d8).row = ⟨.and, .izx, 6, false, .f2 .andIzx⟩ :=
  (rfl : rowOf 0x21 = _)
@[simp] theorem Instr.row_nop22 : Instr.nop22.row = ⟨.nop, .imp, 2, false, .f1 .nop22⟩ :=
  (rfl : rowOf 0x22 = _)
@[simp] theorem Instr.row_rlaIzx (d8 : Byte) : (Instr.rlaIzx d8).row = ⟨.rla, .izx, 8, false, .f2 .rlaIzx⟩ :=
  (rfl : rowOf 0x23 = _)
@[simp] theorem Instr.row_bitZp (d8 : Byte) : (Instr.bitZp d8).row = ⟨.bit, .zp, 3, false, .f2 .bitZp⟩ :=
  (rfl : rowOf 0x24 = _)
@[simp] theorem Instr.row_andZp (d8 : Byte) : (Instr.andZp d8).row = ⟨.and, .zp, 3, false, .f2 .andZp⟩ :=
  (rfl : rowOf 0x25 = _)
@[simp] theorem Instr.row_rolZp (d8 : Byte) : (Instr.rolZp d8).row = ⟨.rol, .zp, 5, false, .f2 .rolZp⟩ :=
  (rfl : rowOf 0x26 = _)
@[simp] theorem Instr.row_rlaZp (d8 : Byte) : (Instr.rlaZp d8).row = ⟨.rla, .zp, 5, false, .f2 .rlaZp⟩ :=
  (rfl : rowOf 0x27 = _)
@[simp] theorem Instr.row_plp : Instr.plp.row = ⟨.plp, .imp, 4, false, .f1 .plp⟩ :=
  (rfl : rowOf 0x28 = _)
@[simp] theorem Instr.row_andImm (d8 : Byte) : (Instr.andImm d8).row = ⟨.and, .imm, 2, false, .f2 .andImm⟩ :=
  (rfl : rowOf 0x29 = _)
@[simp] theorem Instr.row_rolAcc : Instr.rolAcc.row = ⟨.rol, .acc, 2, false, .f1 .rolAcc⟩ :=
  (rfl : rowOf 0x2A = _)
@[simp] theorem Instr.row_anc2B (d8 : Byte) : (Instr.anc2B d8).row = ⟨.anc, .imm, 2, false, .f2 .anc2B⟩ :=
  (rfl : rowOf 0x2B = _)
@[simp] theorem Instr.row_bitAbs (a16 : Addr) : (Instr.bitAbs a16).row = ⟨.bit, .abs, 4, false, .f3 .bitAbs⟩ :=
  (rfl : rowOf 0x2C = _)
@[simp] theorem Instr.row_andAbs (a16 : Addr) : (Instr.andAbs a16).row = ⟨.and, .abs, 4, false, .f3 .andAbs⟩ :=
  (rfl : rowOf 0x2D = _)
@[simp] theorem Instr.row_rolAbs (a16 : Addr) : (Instr.rolAbs a16).row = ⟨.rol, .abs, 6, false, .f3 .rolAbs⟩ :=
  (rfl : rowOf 0x2E = _)
@[simp] theorem Instr.row_rlaAbs (a16 : Addr) : (Instr.rlaAbs a16).row = ⟨.rla, .abs, 6, false, .f3 .rlaAbs⟩ :=
  (rfl : rowOf 0x2F = _)
@[simp] theorem Instr.row_bmi (d8 : Byte) : (Instr.bmi d8).row = ⟨.bmi, .rel, 2, true, .f2 .bmi⟩ :=
  (rfl : rowOf 0x30 = _)
@[simp] theorem Instr.row_andIzy (d8 : Byte) : (Instr.andIzy d8).row = ⟨.and, .izy, 5, true, .f2 .andIzy⟩ :=
  (rfl : rowOf 0x31 = _)
@[simp] theorem Instr.row_nop32 : Instr.nop32.row = ⟨.nop, .imp, 2, false, .f1 .nop32⟩ :=
  (rfl : rowOf 0x32 = _)
@[simp] theorem Instr.row_rlaIzy (d8 : Byte) : (Instr.rlaIzy d8).row = ⟨.rla, .izy, 8, false, .f2 .rlaIzy⟩ :=
  (rfl : rowOf 0x33 = _)
@[simp] theorem Instr.row_nop34 (d8 : Byte) : (Instr.nop34 d8).row = ⟨.nop, .zpx, 4, false, .f2 .nop34⟩ :=
  (rfl : rowOf 0x34 = _)
@[simp] theorem Instr.row_andZpx (d8 : Byte) : (Instr.andZpx d8).row = ⟨.and, .zpx, 4, false, .f2 .andZpx⟩ :=
  (rfl : rowOf 0x35 = _)
@[simp] theorem Instr.row_rolZpx (d8 : Byte) : (Instr.rolZpx d8).row = ⟨.rol, .zpx, 6, false, .f2 .rolZpx⟩ :=
  (rfl : rowOf 0x36 = _)
@[simp] theorem Instr.row_rlaZpx (d8 : Byte) : (Instr.rlaZpx d8).row = ⟨.rla, .zpx, 6, false, .f2 .rlaZpx⟩ :=
  (rfl : rowOf 0x37 = _)
@[simp] theorem Instr.row_sec : Instr.sec.row = ⟨.sec, .imp, 2, false, .f1 .sec⟩ :=
  (rfl : rowOf 0x38 = _)
@[simp] theorem Instr.row_andAby (a16 : Addr) : (Instr.andAby a16).row = ⟨.and, .aby, 4, true, .f3 .andAby⟩ :=
  (rfl : rowOf 0x39 = _)
@[simp] theorem Instr.row_nop3A : Instr.nop3A.row = ⟨.nop, .imp, 2, false, .f1 .nop3A⟩ :=
  (rfl : rowOf 0x3A = _)
@[simp] theorem Instr.row_rlaAby (a16 : Addr) : (Instr.rlaAby a16).row = ⟨.rla, .aby, 7, false, .f3 .rlaAby⟩ :=
  (rfl : rowOf 0x3B = _)
@[simp] theorem Instr.row_nop3C (a16 : Addr) : (Instr.nop3C a16).row = ⟨.nop, .abx, 4, true, .f3 .nop3C⟩ :=
  (rfl : rowOf 0x3C = _)
@[simp] theorem Instr.row_andAbx (a16 : Addr) : (Instr.andAbx a16).row = ⟨.and, .abx, 4, true, .f3 .andAbx⟩ :=
  (rfl : rowOf 0x3D = _)
@[simp] theorem Instr.row_rolAbx (a16 : Addr) : (Instr.rolAbx a16).row = ⟨.rol, .abx, 7, false, .f3 .rolAbx⟩ :=
  (rfl : rowOf 0x3E = _)
@[simp] theorem Instr.row_rlaAbx (a16 : Addr) : (Instr.rlaAbx a16).row = ⟨.rla, .abx, 7, false, .f3 .rlaAbx⟩ :=
  (rfl : rowOf 0x3F = _)
@[simp] theorem Instr.row_rti : Instr.rti.row = ⟨.rti, .imp, 6, false, .f1 .rti⟩ :=
  (rfl : rowOf 0x40 = _)
@[simp] theorem Instr.row_eorIzx (d8 : Byte) : (Instr.eorIzx d8).row = ⟨.eor, .izx, 6, false, .f2 .eorIzx⟩ :=
  (rfl : rowOf 0x41 = _)
@[simp] theorem Instr.row_nop42 : Instr.nop42.row = ⟨.nop, .imp, 2, false, .f1 .nop42⟩ :=
  (rfl : rowOf 0x42 = _)
@[simp] theorem Instr.row_sreIzx (d8 : Byte) : (Instr.sreIzx d8).row = ⟨.sre, .izx, 8, false, .f2 .sreIzx⟩ :=
  (rfl : rowOf 0x43 = _)
@[simp] theorem Instr.row_nop44 (d8 : Byte) : (Instr.nop44 d8).row = ⟨.nop, .zp, 3, false, .f2 .nop44⟩ :=
  (rfl : rowOf 0x44 = _)
@[simp] theorem Instr.row_eorZp (d8 : Byte) : (Instr.eorZp d8).row = ⟨.eor, .zp, 3, false, .f2 .eorZp⟩ :=
  (rfl : rowOf 0x45 = _)
@[simp] theorem Instr.row_lsrZp (d8 : Byte) : (Instr.lsrZp d8).row = ⟨.lsr, .zp, 5, false, .f2 .lsrZp⟩ :=
  (rfl : rowOf 0x46 = _)
@[simp] theorem Instr.row_sreZp (d8 : Byte) : (Instr.sreZp d8).row = ⟨.sre, .zp, 5, false, .f2 .sreZp⟩ :=
  (rfl : rowOf 0x47 = _)
@[simp] theorem Instr.row_pha : Instr.pha.row = ⟨.pha, .imp, 3, false, .f1 .pha⟩ :=
  (rfl : rowOf 0x48 = _)
@[simp] theorem Instr.row_eorImm (d8 : Byte) : (Instr.eorImm d8).row = ⟨.eor, .imm, 2, false, .f2 .eorImm⟩ :=
  (rfl : rowOf 0x49 = _)
@[simp] theorem Instr.row_lsrAcc : Instr.lsrAcc.row = ⟨.lsr, .acc, 2, false, .f1 .lsrAcc⟩ :=
  (rfl : rowOf 0x4A = _)
@[simp] theorem Instr.row_alr (d8 : Byte) : (Instr.alr d8).row = ⟨.alr, .imm, 2, false, .f2 .alr⟩ :=
  (rfl : rowOf 0x4B = _)
@[simp] theorem Instr.row_jmpAbs (a16 : Addr) : (Instr.jmpAbs a16).row = ⟨.jmp, .abs, 3, false, .f3 .jmpAbs⟩ :=
  (rfl : rowOf 0x4C = _)
@[simp] theorem Instr.row_eorAbs (a16 : Addr) : (Instr.eorAbs a16).row = ⟨.eor, .abs, 4, false, .f3 .eorAbs⟩ :=
  (rfl : rowOf 0x4D = _)
@[simp] theorem Instr.row_lsrAbs (a16 : Addr) : (Instr.lsrAbs a16).row = ⟨.lsr, .abs, 6, false, .f3 .lsrAbs⟩ :=
  (rfl : rowOf 0x4E = _)
@[simp] theorem Instr.row_sreAbs (a16 : Addr) : (Instr.sreAbs a16).row = ⟨.sre, .abs, 6, false, .f3 .sreAbs⟩ :=
  (rfl : rowOf 0x4F = _)
@[simp] theorem Instr.row_bvc (d8 : Byte) : (Instr.bvc d8).row = ⟨.bvc, .rel, 2, true, .f2 .bvc⟩ :=
  (rfl : rowOf 0x50 = _)
@[simp] theorem Instr.row_eorIzy (d8 : Byte) : (Instr.eorIzy d8).row = ⟨.eor, .izy, 5, true, .f2 .eorIzy⟩ :=
  (rfl : rowOf 0x51 = _)
@[simp] theorem Instr.row_nop52 : Instr.nop52.row = ⟨.nop, .imp, 2, false, .f1 .nop52⟩ :=
  (rfl : rowOf 0x52 = _)
@[simp] theorem Instr.row_sreIzy (d8 : Byte) : (Instr.sreIzy d8).row = ⟨.sre, .izy, 8, false, .f2 .sreIzy⟩ :=
  (rfl : rowOf 0x53 = _)
@[simp] theorem Instr.row_nop54 (d8 : Byte) : (Instr.nop54 d8).row = ⟨.nop, .zpx, 4, false, .f2 .nop54⟩ :=
  (rfl : rowOf 0x54 = _)
@[simp] theorem Instr.row_eorZpx (d8 : Byte) : (Instr.eorZpx d8).row = ⟨.eor, .zpx, 4, false, .f2 .eorZpx⟩ :=
  (rfl : rowOf 0x55 = _)
@[simp] theorem Instr.row_lsrZpx (d8 : Byte) : (Instr.lsrZpx d8).row = ⟨.lsr, .zpx, 6, false, .f2 .lsrZpx⟩ :=
  (rfl : rowOf 0x56 = _)
@[simp] theorem Instr.row_sreZpx (d8 : Byte) : (Instr.sreZpx d8).row = ⟨.sre, .zpx, 6, false, .f2 .sreZpx⟩ :=
  (rfl : rowOf 0x57 = _)
@[simp] theorem Instr.row_cli : Instr.cli.row = ⟨.cli, .imp, 2, false, .f1 .cli⟩ :=
  (rfl : rowOf 0x58 = _)
@[simp] theorem Instr.row_eorAby (a16 : Addr) : (Instr.eorAby a16).row = ⟨.eor, .aby, 4, true, .f3 .eorAby⟩ :=
  (rfl : rowOf 0x59 = _)
@[simp] theorem Instr.row_nop5A : Instr.nop5A.row = ⟨.nop, .imp, 2, false, .f1 .nop5A⟩ :=
  (rfl : rowOf 0x5A = _)
@[simp] theorem Instr.row_sreAby (a16 : Addr) : (Instr.sreAby a16).row = ⟨.sre, .aby, 7, false, .f3 .sreAby⟩ :=
  (rfl : rowOf 0x5B = _)
@[simp] theorem Instr.row_nop5C (a16 : Addr) : (Instr.nop5C a16).row = ⟨.nop, .abx, 4, true, .f3 .nop5C⟩ :=
  (rfl : rowOf 0x5C = _)
@[simp] theorem Instr.row_eorAbx (a16 : Addr) : (Instr.eorAbx a16).row = ⟨.eor, .abx, 4, true, .f3 .eorAbx⟩ :=
  (rfl : rowOf 0x5D = _)
@[simp] theorem Instr.row_lsrAbx (a16 : Addr) : (Instr.lsrAbx a16).row = ⟨.lsr, .abx, 7, false, .f3 .lsrAbx⟩ :=
  (rfl : rowOf 0x5E = _)
@[simp] theorem Instr.row_sreAbx (a16 : Addr) : (Instr.sreAbx a16).row = ⟨.sre, .abx, 7, false, .f3 .sreAbx⟩ :=
  (rfl : rowOf 0x5F = _)
@[simp] theorem Instr.row_rts : Instr.rts.row = ⟨.rts, .imp, 6, false, .f1 .rts⟩ :=
  (rfl : rowOf 0x60 = _)
@[simp] theorem Instr.row_adcIzx (d8 : Byte) : (Instr.adcIzx d8).row = ⟨.adc, .izx, 6, false, .f2 .adcIzx⟩ :=
  (rfl : rowOf 0x61 = _)
@[simp] theorem Instr.row_nop62 : Instr.nop62.row = ⟨.nop, .imp, 2, false, .f1 .nop62⟩ :=
  (rfl : rowOf 0x62 = _)
@[simp] theorem Instr.row_rraIzx (d8 : Byte) : (Instr.rraIzx d8).row = ⟨.rra, .izx, 8, false, .f2 .rraIzx⟩ :=
  (rfl : rowOf 0x63 = _)
@[simp] theorem Instr.row_nop64 (d8 : Byte) : (Instr.nop64 d8).row = ⟨.nop, .zp, 3, false, .f2 .nop64⟩ :=
  (rfl : rowOf 0x64 = _)
@[simp] theorem Instr.row_adcZp (d8 : Byte) : (Instr.adcZp d8).row = ⟨.adc, .zp, 3, false, .f2 .adcZp⟩ :=
  (rfl : rowOf 0x65 = _)
@[simp] theorem Instr.row_rorZp (d8 : Byte) : (Instr.rorZp d8).row = ⟨.ror, .zp, 5, false, .f2 .rorZp⟩ :=
  (rfl : rowOf 0x66 = _)
@[simp] theorem Instr.row_rraZp (d8 : Byte) : (Instr.rraZp d8).row = ⟨.rra, .zp, 5, false, .f2 .rraZp⟩ :=
  (rfl : rowOf 0x67 = _)
@[simp] theorem Instr.row_pla : Instr.pla.row = ⟨.pla, .imp, 4, false, .f1 .pla⟩ :=
  (rfl : rowOf 0x68 = _)
@[simp] theorem Instr.row_adcImm (d8 : Byte) : (Instr.adcImm d8).row = ⟨.adc, .imm, 2, false, .f2 .adcImm⟩ :=
  (rfl : rowOf 0x69 = _)
@[simp] theorem Instr.row_rorAcc : Instr.rorAcc.row = ⟨.ror, .acc, 2, false, .f1 .rorAcc⟩ :=
  (rfl : rowOf 0x6A = _)
@[simp] theorem Instr.row_arr (d8 : Byte) : (Instr.arr d8).row = ⟨.arr, .imm, 2, false, .f2 .arr⟩ :=
  (rfl : rowOf 0x6B = _)
@[simp] theorem Instr.row_jmpInd (a16 : Addr) : (Instr.jmpInd a16).row = ⟨.jmp, .ind, 5, false, .f3 .jmpInd⟩ :=
  (rfl : rowOf 0x6C = _)
@[simp] theorem Instr.row_adcAbs (a16 : Addr) : (Instr.adcAbs a16).row = ⟨.adc, .abs, 4, false, .f3 .adcAbs⟩ :=
  (rfl : rowOf 0x6D = _)
@[simp] theorem Instr.row_rorAbs (a16 : Addr) : (Instr.rorAbs a16).row = ⟨.ror, .abs, 6, false, .f3 .rorAbs⟩ :=
  (rfl : rowOf 0x6E = _)
@[simp] theorem Instr.row_rraAbs (a16 : Addr) : (Instr.rraAbs a16).row = ⟨.rra, .abs, 6, false, .f3 .rraAbs⟩ :=
  (rfl : rowOf 0x6F = _)
@[simp] theorem Instr.row_bvs (d8 : Byte) : (Instr.bvs d8).row = ⟨.bvs, .rel, 2, true, .f2 .bvs⟩ :=
  (rfl : rowOf 0x70 = _)
@[simp] theorem Instr.row_adcIzy (d8 : Byte) : (Instr.adcIzy d8).row = ⟨.adc, .izy, 5, true, .f2 .adcIzy⟩ :=
  (rfl : rowOf 0x71 = _)
@[simp] theorem Instr.row_nop72 : Instr.nop72.row = ⟨.nop, .imp, 2, false, .f1 .nop72⟩ :=
  (rfl : rowOf 0x72 = _)
@[simp] theorem Instr.row_rraIzy (d8 : Byte) : (Instr.rraIzy d8).row = ⟨.rra, .izy, 8, false, .f2 .rraIzy⟩ :=
  (rfl : rowOf 0x73 = _)
@[simp] theorem Instr.row_nop74 (d8 : Byte) : (Instr.nop74 d8).row = ⟨.nop, .zpx, 4, false, .f2 .nop74⟩ :=
  (rfl : rowOf 0x74 = _)
@[simp] theorem Instr.row_adcZpx (d8 : Byte) : (Instr.adcZpx d8).row = ⟨.adc, .zpx, 4, false, .f2 .adcZpx⟩ :=
  (rfl : rowOf 0x75 = _)
@[simp] theorem Instr.row_rorZpx (d8 : Byte) : (Instr.rorZpx d8).row = ⟨.ror, .zpx, 6, false, .f2 .rorZpx⟩ :=
  (rfl : rowOf 0x76 = _)
@[simp] theorem Instr.row_rraZpx (d8 : Byte) : (Instr.rraZpx d8).row = ⟨.rra, .zpx, 6, false, .f2 .rraZpx⟩ :=
  (rfl : rowOf 0x77 = _)
@[simp] theorem Instr.row_sei : Instr.sei.row = ⟨.sei, .imp, 2, false, .f1 .sei⟩ :=
  (rfl : rowOf 0x78 = _)
@[simp] theorem Instr.row_adcAby (a16 : Addr) : (Instr.adcAby a16).row = ⟨.adc, .aby, 4, true, .f3 .adcAby⟩ :=
  (rfl : rowOf 0x79 = _)
@[simp] theorem Instr.row_nop7A : Instr.nop7A.row = ⟨.nop, .imp, 2, false, .f1 .nop7A⟩ :=
  (rfl : rowOf 0x7A = _)
@[simp] theorem Instr.row_rraAby (a16 : Addr) : (Instr.rraAby a16).row = ⟨.rra, .aby, 7, false, .f3 .rraAby⟩ :=
  (rfl : rowOf 0x7B = _)
@[simp] theorem Instr.row_nop7C (a16 : Addr) : (Instr.nop7C a16).row = ⟨.nop, .abx, 4, true, .f3 .nop7C⟩ :=
  (rfl : rowOf 0x7C = _)
@[simp] theorem Instr.row_adcAbx (a16 : Addr) : (Instr.adcAbx a16).row = ⟨.adc, .abx, 4, true, .f3 .adcAbx⟩ :=
  (rfl : rowOf 0x7D = _)
@[simp] theorem Instr.row_rorAbx (a16 : Addr) : (Instr.rorAbx a16).row = ⟨.ror, .abx, 7, false, .f3 .rorAbx⟩ :=
  (rfl : rowOf 0x7E = _)
@[simp] theorem Instr.row_rraAbx (a16 : Addr) : (Instr.rraAbx a16).row = ⟨.rra, .abx, 7, false, .f3 .rraAbx⟩ :=
  (rfl : rowOf 0x7F = _)
@[simp] theorem Instr.row_nop80 (d8 : Byte) : (Instr.nop80 d8).row = ⟨.nop, .imm, 2, false, .f2 .nop80⟩ :=
  (rfl : rowOf 0x80 = _)
@[simp] theorem Instr.row_staIzx (d8 : Byte) : (Instr.staIzx d8).row = ⟨.sta, .izx, 6, false, .f2 .staIzx⟩ :=
  (rfl : rowOf 0x81 = _)
@[simp] theorem Instr.row_nop82 (d8 : Byte) : (Instr.nop82 d8).row = ⟨.nop, .imm, 2, false, .f2 .nop82⟩ :=
  (rfl : rowOf 0x82 = _)
@[simp] theorem Instr.row_saxIzx (d8 : Byte) : (Instr.saxIzx d8).row = ⟨.sax, .izx, 6, false, .f2 .saxIzx⟩ :=
  (rfl : rowOf 0x83 = _)
@[simp] theorem Instr.row_styZp (d8 : Byte) : (Instr.styZp d8).row = ⟨.sty, .zp, 3, false, .f2 .styZp⟩ :=
  (rfl : rowOf 0x84 = _)
@[simp] theorem Instr.row_staZp (d8 : Byte) : (Instr.staZp d8).row = ⟨.sta, .zp, 3, false, .f2 .staZp⟩ :=
  (rfl : rowOf 0x85 = _)
@[simp] theorem Instr.row_stxZp (d8 : Byte) : (Instr.stxZp d8).row = ⟨.stx, .zp, 3, false, .f2 .stxZp⟩ :=
  (rfl : rowOf 0x86 = _)
@[simp] theorem Instr.row_saxZp (d8 : Byte) : (Instr.saxZp d8).row = ⟨.sax, .zp, 3, false, .f2 .saxZp⟩ :=
  (rfl : rowOf 0x87 = _)
@[simp] theorem Instr.row_dey : Instr.dey.row = ⟨.dey, .imp, 2, false, .f1 .dey⟩ :=
  (rfl : rowOf 0x88 = _)
@[simp] theorem Instr.row_nop89 (d8 : Byte) : (Instr.nop89 d8).row = ⟨.nop, .imm, 2, false, .f2 .nop89⟩ :=
  (rfl : rowOf 0x89 = _)
@[simp] theorem Instr.row_txa : Instr.txa.row = ⟨.txa, .imp, 2, false, .f1 .txa⟩ :=
  (rfl : rowOf 0x8A = _)
@[simp] theorem Instr.row_nop8B (d8 : Byte) : (Instr.nop8B d8).row = ⟨.nop, .imm, 2, false, .f2 .nop8B⟩ :=
  (rfl : rowOf 0x8B = _)
@[simp] theorem Instr.row_styAbs (a16 : Addr) : (Instr.styAbs a16).row = ⟨.sty, .abs, 4, false, .f3 .styAbs⟩ :=
  (rfl : rowOf 0x8C = _)
@[simp] theorem Instr.row_staAbs (a16 : Addr) : (Instr.staAbs a16).row = ⟨.sta, .abs, 4, false, .f3 .staAbs⟩ :=
  (rfl : rowOf 0x8D = _)
@[simp] theorem Instr.row_stxAbs (a16 : Addr) : (Instr.stxAbs a16).row = ⟨.stx, .abs, 4, false, .f3 .stxAbs⟩ :=
  (rfl : rowOf 0x8E = _)
@[simp] theorem Instr.row_saxAbs (a16 : Addr) : (Instr.saxAbs a16).row = ⟨.sax, .abs, 4, false, .f3 .saxAbs⟩ :=
  (rfl : rowOf 0x8F = _)
@[simp] theorem Instr.row_bcc (d8 : Byte) : (Instr.bcc d8).row = ⟨.bcc, .rel, 2, true, .f2 .bcc⟩ :=
  (rfl : rowOf 0x90 = _)
@[simp] theorem Instr.row_staIzy (d8 : Byte) : (Instr.staIzy d8).row = ⟨.sta, .izy, 6, false, .f2 .staIzy⟩ :=
  (rfl : rowOf 0x91 = _)
@[simp] theorem Instr.row_nop92 : Instr.nop92.row = ⟨.nop, .imp, 2, false, .f1 .nop92⟩ :=
  (rfl : rowOf 0x92 = _)
@[simp] theorem Instr.row_nop93 (d8 : Byte) : (Instr.nop93 d8).row = ⟨.nop, .izy, 6, false, .f2 .nop93⟩ :=
  (rfl : rowOf 0x93 = _)
@[simp] theorem Instr.row_styZpx (d8 : Byte) : (Instr.styZpx d8).row = ⟨.sty, .zpx, 4, false, .f2 .styZpx⟩ :=
  (rfl : rowOf 0x94 = _)
@[simp] theorem Instr.row_staZpx (d8 : Byte) : (Instr.staZpx d8).row = ⟨.sta, .zpx, 4, false, .f2 .staZpx⟩ :=
  (rfl : rowOf 0x95 = _)
@[simp] theorem Instr.row_stxZpy (d8 : Byte) : (Instr.stxZpy d8).row = ⟨.stx, .zpy, 4, false, .f2 .stxZpy⟩ :=
  (rfl : rowOf 0x96 = _)
@[simp] theorem Instr.row_saxZpy (d8 : Byte) : (Instr.saxZpy d8).row = ⟨.sax, .zpy, 4, false, .f2 .saxZpy⟩ :=
  (rfl : rowOf 0x97 = _)
@[simp] theorem Instr.row_tya : Instr.tya.row = ⟨.tya, .imp, 2, false, .f1 .tya⟩ :=
  (rfl : rowOf 0x98 = _)
@[simp] theorem Instr.row_staAby (a16 : Addr) : (Instr.staAby a16).row = ⟨.sta, .aby, 5, false, .f3 .staAby⟩ :=
  (rfl : rowOf 0x99 = _)
@[simp] theorem Instr.row_txs : Instr.txs.row = ⟨.txs, .imp, 2, false, .f1 .txs⟩ :=
  (rfl : rowOf 0x9A = _)
@[simp] theorem Instr.row_nop9B (a16 : Addr) : (Instr.nop9B a16).row = ⟨.nop, .aby, 5, false, .f3 .nop9B⟩ :=
  (rfl : rowOf 0x9B = _)
@[simp] theorem Instr.row_nop9C (a16 : Addr) : (Instr.nop9C a16).row = ⟨.nop, .abx, 5, false, .f3 .nop9C⟩ :=
  (rfl : rowOf 0x9C = _)
@[simp] theorem Instr.row_staAbx (a16 : Addr) : (Instr.staAbx a16).row = ⟨.sta, .abx, 5, false, .f3 .staAbx⟩ :=
  (rfl : rowOf 0x9D = _)
@[simp] theorem Instr.row_nop9E (a16 : Addr) : (Instr.nop9E a16).row = ⟨.nop, .aby, 5, false, .f3 .nop9E⟩ :=
  (rfl : rowOf 0x9E = _)
@[simp] theorem Instr.row_nop9F (a16 : Addr) : (Instr.nop9F a16).row = ⟨.nop, .aby, 5, false, .f3 .nop9F⟩ :=
  (rfl : rowOf 0x9F = _)
@[simp] theorem Instr.row_ldyImm (d8 : Byte) : (Instr.ldyImm d8).row = ⟨.ldy, .imm, 2, false, .f2 .ldyImm⟩ :=
  (rfl : rowOf 0xA0 = _)
@[simp] theorem Instr.row_ldaIzx (d8 : Byte) : (Instr.ldaIzx d8).row = ⟨.lda, .izx, 6, false, .f2 .ldaIzx⟩ :=
  (rfl : rowOf 0xA1 = _)
@[simp] theorem Instr.row_ldxImm (d8 : Byte) : (Instr.ldxImm d8).row = ⟨.ldx, .imm, 2, false, .f2 .ldxImm⟩ :=
  (rfl : rowOf 0xA2 = _)
@[simp] theorem Instr.row_laxIzx (d8 : Byte) : (Instr.laxIzx d8).row = ⟨.lax, .izx, 6, false, .f2 .laxIzx⟩ :=
  (rfl : rowOf 0xA3 = _)
@[simp] theorem Instr.row_ldyZp (d8 : Byte) : (Instr.ldyZp d8).row = ⟨.ldy, .zp, 3, false, .f2 .ldyZp⟩ :=
  (rfl : rowOf 0xA4 = _)
@[simp] theorem Instr.row_ldaZp (d8 : Byte) : (Instr.ldaZp d8).row = ⟨.lda, .zp, 3, false, .f2 .ldaZp⟩ :=
  (rfl : rowOf 0xA5 = _)
@[simp] theorem Instr.row_ldxZp (d8 : Byte) : (Instr.ldxZp d8).row = ⟨.ldx, .zp, 3, false, .f2 .ldxZp⟩ :=
  (rfl : rowOf 0xA6 = _)
@[simp] theorem Instr.row_laxZp (d8 : Byte) : (Instr.laxZp d8).row = ⟨.lax, .zp, 3, false, .f2 .laxZp⟩ :=
  (rfl : rowOf 0xA7 = _)
@[simp] theorem Instr.row_tay : Instr.tay.row = ⟨.tay, .imp, 2, false, .f1 .tay⟩ :=
  (rfl : rowOf 0xA8 = _)
@[simp] theorem Instr.row_ldaImm (d8 : Byte) : (Instr.ldaImm d8).row = ⟨.lda, .imm, 2, false, .f2 .ldaImm⟩ :=
  (rfl : rowOf 0xA9 = _)
@[simp] theorem Instr.row_tax : Instr.tax.row = ⟨.tax, .imp, 2, false, .f1 .tax⟩ :=
  (rfl : rowOf 0xAA = _)
@[simp] theorem Instr.row_nopAB (d8 : Byte) : (Instr.nopAB d8).row = ⟨.nop, .imm, 2, false, .f2 .nopAB⟩ :=
  (rfl : rowOf 0xAB = _)
@[simp] theorem Instr.row_ldyAbs (a16 : Addr) : (Instr.ldyAbs a16).row = ⟨.ldy, .abs, 4, false, .f3 .ldyAbs⟩ :=
  (rfl : rowOf 0xAC = _)
@[simp] theorem Instr.row_ldaAbs (a16 : Addr) : (Instr.ldaAbs a16).row = ⟨.lda, .abs, 4, false, .f3 .ldaAbs⟩ :=
  (rfl : rowOf 0xAD = _)
@[simp] theorem Instr.row_ldxAbs (a16 : Addr) : (Instr.ldxAbs a16).row = ⟨.ldx, .abs, 4, false, .f3 .ldxAbs⟩ :=
  (rfl : rowOf 0xAE = _)
@[simp] theorem Instr.row_laxAbs (a16 : Addr) : (Instr.laxAbs a16).row = ⟨.lax, .abs, 4, false, .f3 .laxAbs⟩ :=
  (rfl : rowOf 0xAF = _)
@[simp] theorem Instr.row_bcs (d8 : Byte) : (Instr.bcs d8).row = ⟨.bcs, .rel, 2, true, .f2 .bcs⟩ :=
  (rfl : rowOf 0xB0 = _)
@[simp] theorem Instr.row_ldaIzy (d8 : Byte) : (Instr.ldaIzy d8).row = ⟨.lda, .izy, 5, true, .f2 .ldaIzy⟩ :=
  (rfl : rowOf 0xB1 = _)
@[simp] theorem Instr.row_nopB2 : Instr.nopB2.row = ⟨.nop, .imp, 2, false, .f1 .nopB2⟩ :=
  (rfl : rowOf 0xB2 = _)
@[simp] theorem Instr.row_laxIzy (d8 : Byte) : (Instr.laxIzy d8).row = ⟨.lax, .izy, 5, true, .f2 .laxIzy⟩ :=
  (rfl : rowOf 0xB3 = _)
@[simp] theorem Instr.row_ldyZpx (d8 : Byte) : (Instr.ldyZpx d8).row = ⟨.ldy, .zpx, 4, false, .f2 .ldyZpx⟩ :=
  (rfl : rowOf 0xB4 = _)
@[simp] theorem Instr.row_ldaZpx (d8 : Byte) : (Instr.ldaZpx d8).row = ⟨.lda, .zpx, 4, false, .f2 .ldaZpx⟩ :=
  (rfl : rowOf 0xB5 = _)
@[simp] theorem Instr.row_ldxZpy (d8 : Byte) : (Instr.ldxZpy d8).row = ⟨.ldx, .zpy, 4, false, .f2 .ldxZpy⟩ :=
  (rfl : rowOf 0xB6 = _)
@[simp] theorem Instr.row_laxZpy (d8 : Byte) : (Instr.laxZpy d8).row = ⟨.lax, .zpy, 4, false, .f2 .laxZpy⟩ :=
  (rfl : rowOf 0xB7 = _)
@[simp] theorem Instr.row_clv : Instr.clv.row = ⟨.clv, .imp, 2, false, .f1 .clv⟩ :=
  (rfl : rowOf 0xB8 = _)
@[simp] theorem Instr.row_ldaAby (a16 : Addr) : (Instr.ldaAby a16).row = ⟨.lda, .aby, 4, true, .f3 .ldaAby⟩ :=
  (rfl : rowOf 0xB9 = _)
@[simp] theorem Instr.row_tsx : Instr.tsx.row = ⟨.tsx, .imp, 2, false, .f1 .tsx⟩ :=
  (rfl : rowOf 0xBA = _)
@[simp] theorem Instr.row_las (a16 : Addr) : (Instr.las a16).row = ⟨.las, .aby, 4, true, .f3 .las⟩ :=
  (rfl : rowOf 0xBB = _)
@[simp] theorem Instr.row_ldyAbx (a16 : Addr) : (Instr.ldyAbx a16).row = ⟨.ldy, .abx, 4, true, .f3 .ldyAbx⟩ :=
  (rfl : rowOf 0xBC = _)
@[simp] theorem Instr.row_ldaAbx (a16 : Addr) : (Instr.ldaAbx a16).row = ⟨.lda, .abx, 4, true, .f3 .ldaAbx⟩ :=
  (rfl : rowOf 0xBD = _)
@[simp] theorem Instr.row_ldxAby (a16 : Addr) : (Instr.ldxAby a16).row = ⟨.ldx, .aby, 4, true, .f3 .ldxAby⟩ :=
  (rfl : rowOf 0xBE = _)
@[simp] theorem Instr.row_laxAby (a16 : Addr) : (Instr.laxAby a16).row = ⟨.lax, .aby, 4, true, .f3 .laxAby⟩ :=
  (rfl : rowOf 0xBF = _)
@[simp] theorem Instr.row_cpyImm (d8 : Byte) : (Instr.cpyImm d8).row = ⟨.cpy, .imm, 2, false, .f2 .cpyImm⟩ :=
  (rfl : rowOf 0xC0 = _)
@[simp] theorem Instr.row_cmpIzx (d8 : Byte) : (Instr.cmpIzx d8).row = ⟨.cmp, .izx, 6, false, .f2 .cmpIzx⟩ :=
  (rfl : rowOf 0xC1 = _)
@[simp] theorem Instr.row_nopC2 (d8 : Byte) : (Instr.nopC2 d8).row = ⟨.nop, .imm, 2, false, .f2 .nopC2⟩ :=
  (rfl : rowOf 0xC2 = _)
@[simp] theorem Instr.row_dcpIzx (d8 : Byte) : (Instr.dcpIzx d8).row = ⟨.dcp, .izx, 8, false, .f2 .dcpIzx⟩ :=
  (rfl : rowOf 0xC3 = _)
@[simp] theorem Instr.row_cpyZp (d8 : Byte) : (Instr.cpyZp d8).row = ⟨.cpy, .zp, 3, false, .f2 .cpyZp⟩ :=
  (rfl : rowOf 0xC4 = _)
@[simp] theorem Instr.row_cmpZp (d8 : Byte) : (Instr.cmpZp d8).row = ⟨.cmp, .zp, 3, false, .f2 .cmpZp⟩ :=
  (rfl : rowOf 0xC5 = _)
@[simp] theorem Instr.row_decZp (d8 : Byte) : (Instr.decZp d8).row = ⟨.dec, .zp, 5, false, .f2 .decZp⟩ :=
  (rfl : rowOf 0xC6 = _)
@[simp] theorem Instr.row_dcpZp (d8 : Byte) : (Instr.dcpZp d8).row = ⟨.dcp, .zp, 5, false, .f2 .dcpZp⟩ :=
  (rfl : rowOf 0xC7 = _)
@[simp] theorem Instr.row_iny : Instr.iny.row = ⟨.iny, .imp, 2, false, .f1 .iny⟩ :=
  (rfl : rowOf 0xC8 = _)
@[simp] theorem Instr.row_cmpImm (d8 : Byte) : (Instr.cmpImm d8).row = ⟨.cmp, .imm, 2, false, .f2 .cmpImm⟩ :=
  (rfl : rowOf 0xC9 = _)
@[simp] theorem Instr.row_dex : Instr.dex.row = ⟨.dex, .imp, 2, false, .f1 .dex⟩ :=
  (rfl : rowOf 0xCA = _)
@[simp] theorem Instr.row_sbx (d8 : Byte) : (Instr.sbx d8).row = ⟨.sbx, .imm, 2, false, .f2 .sbx⟩ :=
  (rfl : rowOf 0xCB = _)
@[simp] theorem Instr.row_cpyAbs (a16 : Addr) : (Instr.cpyAbs a16).row = ⟨.cpy, .abs, 4, false, .f3 .cpyAbs⟩ :=
  (rfl : rowOf 0xCC = _)
@[simp] theorem Instr.row_cmpAbs (a16 : Addr) : (Instr.cmpAbs a16).row = ⟨.cmp, .abs, 4, false, .f3 .cmpAbs⟩ :=
  (rfl : rowOf 0xCD = _)
@[simp] theorem Instr.row_decAbs (a16 : Addr) : (Instr.decAbs a16).row = ⟨.dec, .abs, 6, false, .f3 .decAbs⟩ :=
  (rfl : rowOf 0xCE = _)
@[simp] theorem Instr.row_dcpAbs (a16 : Addr) : (Instr.dcpAbs a16).row = ⟨.dcp, .abs, 6, false, .f3 .dcpAbs⟩ :=
  (rfl : rowOf 0xCF = _)
@[simp] theorem Instr.row_bne (d8 : Byte) : (Instr.bne d8).row = ⟨.bne, .rel, 2, true, .f2 .bne⟩ :=
  (rfl : rowOf 0xD0 = _)
@[simp] theorem Instr.row_cmpIzy (d8 : Byte) : (Instr.cmpIzy d8).row = ⟨.cmp, .izy, 5, true, .f2 .cmpIzy⟩ :=
  (rfl : rowOf 0xD1 = _)
@[simp] theorem Instr.row_nopD2 : Instr.nopD2.row = ⟨.nop, .imp, 2, false, .f1 .nopD2⟩ :=
  (rfl : rowOf 0xD2 = _)
@[simp] theorem Instr.row_dcpIzy (d8 : Byte) : (Instr.dcpIzy d8).row = ⟨.dcp, .izy, 8, false, .f2 .dcpIzy⟩ :=
  (rfl : rowOf 0xD3 = _)
@[simp] theorem Instr.row_nopD4 (d8 : Byte) : (Instr.nopD4 d8).row = ⟨.nop, .zpx, 4, false, .f2 .nopD4⟩ :=
  (rfl : rowOf 0xD4 = _)
@[simp] theorem Instr.row_cmpZpx (d8 : Byte) : (Instr.cmpZpx d8).row = ⟨.cmp, .zpx, 4, false, .f2 .cmpZpx⟩ :=
  (rfl : rowOf 0xD5 = _)
@[simp] theorem Instr.row_decZpx (d8 : Byte) : (Instr.decZpx d8).row = ⟨.dec, .zpx, 6, false, .f2 .decZpx⟩ :=
  (rfl : rowOf 0xD6 = _)
@[simp] theorem Instr.row_dcpZpx (d8 : Byte) : (Instr.dcpZpx d8).row = ⟨.dcp, .zpx, 6, false, .f2 .dcpZpx⟩ :=
  (rfl : rowOf 0xD7 = _)
@[simp] theorem Instr.row_cld : Instr.cld.row = ⟨.cld, .imp, 2, false, .f1 .cld⟩ :=
  (rfl : rowOf 0xD8 = _)
@[simp] theorem Instr.row_cmpAby (a16 : Addr) : (Instr.cmpAby a16).row = ⟨.cmp, .aby, 4, true, .f3 .cmpAby⟩ :=
  (rfl : rowOf 0xD9 = _)
@[simp] theorem Instr.row_nopDA : Instr.nopDA.row = ⟨.nop, .imp, 2, false, .f1 .nopDA⟩ :=
  (rfl : rowOf 0xDA = _)
@[simp] theorem Instr.row_dcpAby (a16 : Addr) : (Instr.dcpAby a16).row = ⟨.dcp, .aby, 7, false, .f3 .dcpAby⟩ :=
  (rfl : rowOf 0xDB = _)
@[simp] theorem Instr.row_nopDC (a16 : Addr) : (Instr.nopDC a16).row = ⟨.nop, .abx, 4, true, .f3 .nopDC⟩ :=
  (rfl : rowOf 0xDC = _)
@[simp] theorem Instr.row_cmpAbx (a16 : Addr) : (Instr.cmpAbx a16).row = ⟨.cmp, .abx, 4, true, .f3 .cmpAbx⟩ :=
  (rfl : rowOf 0xDD = _)
@[simp] theorem Instr.row_decAbx (a16 : Addr) : (Instr.decAbx a16).row = ⟨.dec, .abx, 7, false, .f3 .decAbx⟩ :=
  (rfl : rowOf 0xDE = _)
@[simp] theorem Instr.row_dcpAbx (a16 : Addr) : (Instr.dcpAbx a16).row = ⟨.dcp, .abx, 7, false, .f3 .dcpAbx⟩ :=
  (rfl : rowOf 0xDF = _)
@[simp] theorem Instr.row_cpxImm (d8 : Byte) : (Instr.cpxImm d8).row = ⟨.cpx, .imm, 2, false, .f2 .cpxImm⟩ :=
  (rfl : rowOf 0xE0 = _)
@[simp] theorem Instr.row_sbcIzx (d8 : Byte) : (Instr.sbcIzx d8).row = ⟨.sbc, .izx, 6, false, .f2 .sbcIzx⟩ :=
  (rfl : rowOf 0xE1 = _)
@[simp] theorem Instr.row_nopE2 (d8 : Byte) : (Instr.nopE2 d8).row = ⟨.nop, .imm, 2, false, .f2 .nopE2⟩ :=
  (rfl : rowOf 0xE2 = _)
@[simp] theorem Instr.row_iscIzx (d8 : Byte) : (Instr.iscIzx d8).row = ⟨.isc, .izx, 8, false, .f2 .iscIzx⟩ :=
  (rfl : rowOf 0xE3 = _)
@[simp] theorem Instr.row_cpxZp (d8 : Byte) : (Instr.cpxZp d8).row = ⟨.cpx, .zp, 3, false, .f2 .cpxZp⟩ :=
  (rfl : rowOf 0xE4 = _)
@[simp] theorem Instr.row_sbcZp (d8 : Byte) : (Instr.sbcZp d8).row = ⟨.sbc, .zp, 3, false, .f2 .sbcZp⟩ :=
  (rfl : rowOf 0xE5 = _)
@[simp] theorem Instr.row_incZp (d8 : Byte) : (Instr.incZp d8).row = ⟨.inc, .zp, 5, false, .f2 .incZp⟩ :=
  (rfl : rowOf 0xE6 = _)
@[simp] theorem Instr.row_iscZp (d8 : Byte) : (Instr.iscZp d8).row = ⟨.isc, .zp, 5, false, .f2 .iscZp⟩ :=
  (rfl : rowOf 0xE7 = _)
@[simp] theorem Instr.row_inx : Instr.inx.row = ⟨.inx, .imp, 2, false, .f1 .inx⟩ :=
  (rfl : rowOf 0xE8 = _)
@[simp] theorem Instr.row_sbcImm (d8 : Byte) : (Instr.sbcImm d8).row = ⟨.sbc, .imm, 2, false, .f2 .sbcImm⟩ :=
  (rfl : rowOf 0xE9 = _)
@[simp] theorem Instr.row_nop : Instr.nop.row = ⟨.nop, .imp, 2, false, .f1 .nop⟩ :=
  (rfl : rowOf 0xEA = _)
@[simp] theorem Instr.row_usbc (d8 : Byte) : (Instr.usbc d8).row = ⟨.usbc, .imm, 2, false, .f2 .usbc⟩ :=
  (rfl : rowOf 0xEB = _)
@[simp] theorem Instr.row_cpxAbs (a16 : Addr) : (Instr.cpxAbs a16).row = ⟨.cpx, .abs, 4, false, .f3 .cpxAbs⟩ :=
  (rfl : rowOf 0xEC = _)
@[simp] theorem Instr.row_sbcAbs (a16 : Addr) : (Instr.sbcAbs a16).row = ⟨.sbc, .abs, 4, false, .f3 .sbcAbs⟩ :=
  (rfl : rowOf 0xED = _)
@[simp] theorem Instr.row_incAbs (a16 : Addr) : (Instr.incAbs a16).row = ⟨.inc, .abs, 6, false, .f3 .incAbs⟩ :=
  (rfl : rowOf 0xEE = _)
@[simp] theorem Instr.row_iscAbs (a16 : Addr) : (Instr.iscAbs a16).row = ⟨.isc, .abs, 6, false, .f3 .iscAbs⟩ :=
  (rfl : rowOf 0xEF = _)
@[simp] theorem Instr.row_beq (d8 : Byte) : (Instr.beq d8).row = ⟨.beq, .rel, 2, true, .f2 .beq⟩ :=
  (rfl : rowOf 0xF0 = _)
@[simp] theorem Instr.row_sbcIzy (d8 : Byte) : (Instr.sbcIzy d8).row = ⟨.sbc, .izy, 5, true, .f2 .sbcIzy⟩ :=
  (rfl : rowOf 0xF1 = _)
@[simp] theorem Instr.row_nopF2 : Instr.nopF2.row = ⟨.nop, .imp, 2, false, .f1 .nopF2⟩ :=
  (rfl : rowOf 0xF2 = _)
@[simp] theorem Instr.row_iscIzy (d8 : Byte) : (Instr.iscIzy d8).row = ⟨.isc, .izy, 8, false, .f2 .iscIzy⟩ :=
  (rfl : rowOf 0xF3 = _)
@[simp] theorem Instr.row_nopF4 (d8 : Byte) : (Instr.nopF4 d8).row = ⟨.nop, .zpx, 4, false, .f2 .nopF4⟩ :=
  (rfl : rowOf 0xF4 = _)
@[simp] theorem Instr.row_sbcZpx (d8 : Byte) : (Instr.sbcZpx d8).row = ⟨.sbc, .zpx, 4, false, .f2 .sbcZpx⟩ :=
  (rfl : rowOf 0xF5 = _)
@[simp] theorem Instr.row_incZpx (d8 : Byte) : (Instr.incZpx d8).row = ⟨.inc, .zpx, 6, false, .f2 .incZpx⟩ :=
  (rfl : rowOf 0xF6 = _)
@[simp] theorem Instr.row_iscZpx (d8 : Byte) : (Instr.iscZpx d8).row = ⟨.isc, .zpx, 6, false, .f2 .iscZpx⟩ :=
  (rfl : rowOf 0xF7 = _)
@[simp] theorem Instr.row_sed : Instr.sed.row = ⟨.sed, .imp, 2, false, .f1 .sed⟩ :=
  (rfl : rowOf 0xF8 = _)
@[simp] theorem Instr.row_sbcAby (a16 : Addr) : (Instr.sbcAby a16).row = ⟨.sbc, .aby, 4, true, .f3 .sbcAby⟩ :=
  (rfl : rowOf 0xF9 = _)
@[simp] theorem Instr.row_nopFA : Instr.nopFA.row = ⟨.nop, .imp, 2, false, .f1 .nopFA⟩ :=
  (rfl : rowOf 0xFA = _)
@[simp] theorem Instr.row_iscAby (a16 : Addr) : (Instr.iscAby a16).row = ⟨.isc, .aby, 7, false, .f3 .iscAby⟩ :=
  (rfl : rowOf 0xFB = _)
@[simp] theorem Instr.row_nopFC (a16 : Addr) : (Instr.nopFC a16).row = ⟨.nop, .abx, 4, true, .f3 .nopFC⟩ :=
  (rfl : rowOf 0xFC = _)
@[simp] theorem Instr.row_sbcAbx (a16 : Addr) : (Instr.sbcAbx a16).row = ⟨.sbc, .abx, 4, true, .f3 .sbcAbx⟩ :=
  (rfl : rowOf 0xFD = _)
@[simp] theorem Instr.row_incAbx (a16 : Addr) : (Instr.incAbx a16).row = ⟨.inc, .abx, 7, false, .f3 .incAbx⟩ :=
  (rfl : rowOf 0xFE = _)
@[simp] theorem Instr.row_iscAbx (a16 : Addr) : (Instr.iscAbx a16).row = ⟨.isc, .abx, 7, false, .f3 .iscAbx⟩ :=
  (rfl : rowOf 0xFF = _)

/-- What a format makes an instruction from. -/
def Build.Makes (b : Build) (i : Instr) : Prop :=
  match b with
  | .f1 j => i = j
  | .f2 k => ∃ d8, i = k d8
  | .f3 k => ∃ a16, i = k a16

/-- Every instruction is made by the cell of its own opcode. -/
theorem Instr.made (i : Instr) : i.row.build.Makes i := by
  cases i <;> simp [Build.Makes]

theorem mem_allOpcodes (op : Byte) : op ∈ allOpcodes := by
  simp only [allOpcodes, List.mem_map, List.mem_range]
  exact ⟨op.toNat, op.isLt, by simp⟩

/-- The instructions of a mnemonic are those that its encodings make: with `encodingsOf m` written out, one case per form. -/
theorem Instr.forms (i : Instr) (m : Mnemonic) (h : i.mnemonic = m) :
    ∃ e ∈ encodingsOf m, (rowOf e.opcode).build.Makes i := by
  refine ⟨_, List.mem_map.mpr ⟨i.opcode, List.mem_filter.mpr ⟨mem_allOpcodes _, ?_⟩, rfl⟩, i.made⟩
  exact decide_eq_true h

end Sys2Proof
end

