-- ==== Sys2Proof/Laws/Step.lean ====
section
/-! SUPPORT. What the operations around `exec` can do, each said once: wiring, fetch, flush, the end of a CPU step, the host's accesses,
and the cases of one step of the machine. -/

namespace Sys2Proof.Machine

/-- The wiring changes the interrupt inputs and nothing else (60_exceptions.md R302). -/
theorem wireInputs_eq (s : State) : s.wireInputs = { s with inputs := s.wireInputs.inputs } := by
  unfold State.wireInputs
  split <;> rfl

/-- The wiring of the Machine: IRQ from the PIA if wired, NMI low, a pending NMI kept (60_exceptions.md R302). -/
theorem wireInputs_machine (s : State) (h : s.wiring.cpuAlone = false) : s.wireInputs.inputs =
    ⟨s.wiring.piaIrqWired && (s.pia.portA.irq || s.pia.portB.irq), false, s.inputs.nmiPending⟩ := by
  simp [State.wireInputs, h, State.setIrqLine, State.setNmiLine]

/-- A CPU standing alone keeps the inputs it was given. -/
theorem wireInputs_alone (s : State) (h : s.wiring.cpuAlone = true) : s.wireInputs = s := by simp [State.wireInputs, h]

/-- The bytes fetched are one whole instruction. -/
theorem decode_fetch (s : State) : ∃ i, decode s.fetch.1 = .ok (i, []) := by
  unfold State.fetch
  dsimp only
  split
  · rename_i h
    exact ⟨_, by simp only [decode, h]; rfl⟩
  · rename_i h
    split <;> exact ⟨_, by simp only [decode, h]; rfl⟩
  · rename_i h
    exact ⟨_, by simp only [decode, h]; rfl⟩

/-- A fetch moves `PC`, latches the opcode, has the PIA's read side effects, and changes nothing else. -/
theorem fetch_eq (s : State) :
    s.fetch.2 = { s with pc := s.fetch.2.pc, opcode := s.fetch.2.opcode, pia := s.fetch.2.pia } := by
  have h : ∀ t : State, t.fetchByte.2 = { t with pc := t.fetchByte.2.pc, pia := t.fetchByte.2.pia } := fun t => by
    simp only [State.fetchByte]
    rw [memRead_frame t t.pc]
  unfold State.fetch
  dsimp only
  split
  · rw [h s]
  · split
    · rw [h s]
    · rw [h { s.fetchByte.2 with opcode := s.fetchByte.1 }, h s]
  · rw [h ({ s.fetchByte.2 with opcode := s.fetchByte.1 } : State).fetchByte.2, h { s.fetchByte.2 with opcode := s.fetchByte.1 }, h s]

/-- A flush clears the pending notification, and at most adds one event (60_exceptions.md R354). -/
theorem flush_eq (s : State) :
    s.flush = { s with pia := { s.pia with notifyPending := false }, hostEvents := s.flush.hostEvents } ∧
    s.hostEvents <+: s.flush.hostEvents := by
  unfold State.flush
  split
  · exact ⟨rfl, List.prefix_append _ _⟩
  · rename_i h
    simp only [Bool.not_eq_true] at h
    refine ⟨?_, List.prefix_rfl⟩
    dsimp only
    rw [← h]

/-- What a quantum does after a CPU step touches the Clock's pause, the host events, the steps left and the pending notification only;
the notification is flushed exactly at the quantum's end (60_exceptions.md R361). -/
theorem afterCpuStep_eq (r : CpuResult) (u : State) :
    ∃ (events : List HostEvent) (p : Pia) (c : Clock) (left : Nat),
      u.afterCpuStep r = { u with clock := c, hostEvents := events, quantumLeft := left, pia := p } ∧
      u.hostEvents <+: events ∧ (c = u.clock ∨ c = { u.clock with paused := true }) ∧ left ≤ u.quantumLeft ∧
      (left = 0 → p = { u.pia with notifyPending := false }) ∧ (left ≠ 0 → p = u.pia) := by
  unfold State.afterCpuStep
  split
  · have h := flush_eq { u.pause.emit (.hookHalted u.pc) with quantumLeft := 0 }
    exact ⟨_, _, _, _, h.1, (List.prefix_append _ _).trans h.2, .inr rfl, Nat.zero_le _, fun _ => rfl, fun h => absurd rfl h⟩
  · split
    · have h := flush_eq { u with quantumLeft := 0 }
      exact ⟨_, _, _, _, h.1, h.2, .inl rfl, Nat.zero_le _, fun _ => rfl, fun h => absurd rfl h⟩
    · rename_i h
      simp only [Bool.or_eq_true, not_or, decide_eq_true_eq] at h
      exact ⟨_, _, _, _, rfl, List.prefix_rfl, .inl rfl, Nat.sub_le _ _, fun h => by omega, fun _ => rfl⟩

/-- A bus write changes memory, the PIA and the output history only, and the history only grows. -/
theorem memWrite_eq (s : State) (a : Addr) (v : Byte) :
    ∃ m p o, s.memWrite a v = { s with mem := m, pia := p, output := o } ∧ s.output <+: o := by
  rcases memWrite_cases s a v with ⟨-, e⟩ | ⟨o, -, e⟩ | ⟨-, e⟩ <;> rw [e]
  · exact ⟨_, _, _, rfl, List.prefix_rfl⟩
  · exact ⟨_, _, _, rfl, List.prefix_append _ _⟩
  · exact ⟨_, _, _, rfl, List.prefix_rfl⟩

/-- A host read changes the PIA at most (60_exceptions.md R387). -/
theorem hostReadBytes_eq (start : Int) (n : Nat) (s : State) : ∃ p, (s.hostReadBytes start n).2 = { s with pia := p } := by
  induction n generalizing start s with
  | zero => exact ⟨_, rfl⟩
  | succ n ih =>
    obtain ⟨p, hp⟩ := ih (start + 1) (s.hostReadByte start).2
    simp only [State.hostReadBytes]
    rw [hp, State.hostReadByte]
    split
    · dsimp only
      split
      · rw [memRead_frame]
        exact ⟨_, rfl⟩
      · exact ⟨_, rfl⟩
    · exact ⟨_, rfl⟩

/-- A state property of the memory, the PIA and the output history that every bus access keeps is kept by a CPU step. -/
theorem BusProperty.cpuStep {P : State → Prop} (h : BusProperty P) {s t : State} {r : CpuResult}
    (hc : cpuStep s = .next (r, t)) (hs : P s) : P t := by
  have byte : ∀ u : State, P u → P u.fetchByte.2 := fun u hu => h.congr _ _ (h.read u u.pc hu) rfl rfl rfl
  have latched : P { s.fetchByte.2 with opcode := s.fetchByte.1 } := h.congr _ _ (byte s hs) rfl rfl rfl
  unfold Machine.cpuStep at hc
  split at hc
  · cases hc
    exact hs
  split at hc
  · cases hc
    have h1 : P { s with inputs := { s.inputs with nmiPending := false } } := h.congr s _ hs rfl rfl rfl
    exact h.congr _ _ (h.interrupt nmiVector false h1) rfl rfl rfl
  split at hc
  · cases hc
    exact h.congr _ _ (h.interrupt irqVector false hs) rfl rfl rfl
  split at hc
  · rename_i u hu
    cases hc
    unfold State.runInstr at hu
    split at hu
    · refine h.exec hu ?_
      unfold State.fetch
      dsimp only
      split
      · exact latched
      · split
        · exact h.congr _ _ latched rfl rfl rfl
        · exact byte _ latched
      · exact byte _ (byte _ latched)
    · cases hu
  · cases hc
  · cases hc

/-- The cases of one step, for any property of its outcome: idle, the end of a stopped quantum, a CPU step, a device action, a host
action, an interrupt-line turn, a measurement (00_scope.md R10, R11). -/
theorem step_cases (M : State → Prop) {s t : State} (h : step s = .next t)
    (idle : s.quantumLeft = 0 → ∀ rest, M { s with agenda := rest })
    (ended : s.stopped = true → M s.endQuantum)
    (cpu : ∀ rest n u, (n = s.quantumLeft ∧ n ≠ 0 ∧ rest = s.agenda ∨ ∃ k, n = quantumLength k s.clock) →
      s.stopped = false → cpuTurn { s with agenda := rest, quantumLeft := n } = .next u → M u)
    (device : ∀ act rest, s.quantumLeft = 0 → s.agenda = .device act :: rest →
      M (deviceAct act { s with agenda := rest }).flush)
    (host : ∀ act rest u, s.quantumLeft = 0 → s.agenda = .host act :: rest →
      hostAct act { s with agenda := rest } = .next u → M u.flush)
    (irq : ∀ level rest, s.quantumLeft = 0 →
      M (if s.wiring.cpuAlone then ({ s with agenda := rest } : State).setIrqLine level else { s with agenda := rest }))
    (nmi : ∀ level rest, s.quantumLeft = 0 →
      M (if s.wiring.cpuAlone then ({ s with agenda := rest } : State).setNmiLine level else { s with agenda := rest }))
    (measured : ∀ d rest, s.quantumLeft = 0 →
      M { s with agenda := rest, clock := { s.clock with drift := s.clock.drift + d } }) : M t := by
  unfold step advance at h
  split at h
  · rename_i hq
    have start : ∀ n rest, startQuantum n { s with agenda := rest } = .next t → M t := by
      intro n rest h
      unfold startQuantum at h
      split at h
      · cases h
        exact idle hq _
      · rename_i hs
        exact cpu rest _ _ (.inr ⟨n, rfl⟩) (by simpa [State.stopped] using hs) h
    split at h
    · rename_i ha
      exact start 1 [] (by rw [← ha]; exact h)
    · rename_i turn rest ha
      cases turn with
      | quantum n => exact start _ _ h
      | device a =>
        cases h
        exact device _ _ hq ha
      | host a =>
        simp only [takeTurn] at h
        obtain ⟨u, hu, rfl⟩ := endTurn_next _ _ h
        exact host _ _ _ hq ha hu
      | setIrqLine l =>
        cases h
        exact irq _ _ hq
      | setNmiLine l =>
        cases h
        exact nmi _ _ hq
      | measure d =>
        cases h
        exact measured _ _ hq
  · rename_i hq
    unfold continueQuantum at h
    split at h
    · rename_i hs
      cases h
      exact ended hs
    · rename_i hs
      exact cpu s.agenda s.quantumLeft _ (.inl ⟨rfl, hq, rfl⟩) (by simpa using hs) h

/-- A running machine's step is one CPU step of the quantum it is in, or starts now (60_exceptions.md R361). -/
theorem step_inQuantum {s q : State} (hs : s.stopped = false) (hq : s.inQuantum q) : step s = cpuTurn q := by
  have start : ∀ (n : Nat) (u : State), u.stopped = false →
      startQuantum n u = cpuTurn { u with quantumLeft := quantumLength n u.clock } := fun n u hu => by
    simp [startQuantum, hu]
  obtain ⟨h0, rfl⟩ | ⟨h0, ha, rfl⟩ | ⟨h0, n, rest, ha, rfl⟩ := hq
  · simp [step, advance, h0, continueQuantum, hs]
  · have h : step s = startQuantum 1 s := by simp only [step, advance, h0, if_true, ha]
    exact h.trans (start 1 s hs)
  · have h : step s = startQuantum n { s with agenda := rest } := by simp only [step, advance, if_pos h0, ha, takeTurn]
    exact h.trans (start n _ hs)

/-- The state inside the quantum differs in the agenda and the steps left only. -/
theorem State.inQuantum_eq {s q : State} (hq : s.inQuantum q) :
    q = { s with agenda := q.agenda, quantumLeft := q.quantumLeft } := by
  obtain ⟨-, rfl⟩ | ⟨-, -, rfl⟩ | ⟨-, _, _, -, rfl⟩ := hq <;> rfl

/-- A CPU step that is not halted leads to its state with the quantum counted down, or ended and flushed. -/
theorem cpuTurn_next {q u : State} {r : CpuResult} (h : cpuStep q.wireInputs = .next (r, u)) (hr : r ≠ .halted) :
    cpuTurn q = .next (if u.quantumLeft ≤ 1 ∨ u.stopped = true then ({ u with quantumLeft := 0 } : State).flush
      else { u with quantumLeft := u.quantumLeft - 1 }) := by
  simp [cpuTurn, h, State.afterCpuStep, hr, State.endQuantum]

end Sys2Proof.Machine
end

