-- ==== Sys2Proof/Tests/Slice0.lean ====
section
/-! SUPPORT. Tests of the model and witnesses of the statements. Expected values come from spec/: the decoding tests are copied from the
grid of 30_encoding.md R106, the step tests from the vectors of 95_test_vectors.md part 2, the construction tests from its part 1. -/

namespace Sys2Proof.Tests

open Sys2Proof.Machine

/-! ### Helpers -/

/-- Stores bytes at ascending addresses. -/
def place : Nat → List Byte → Memory → Memory
  | _, [], m => m
  | a, v :: rest, m => place (a + 1) rest (m.write a v)

/-- Stores single bytes. -/
def withCells : List Host.Cell → Memory → Memory
  | [], m => m
  | c :: rest, m => withCells rest (m.write c.1 c.2)

/-- The start state of the vectors: everything 0, the given bytes at 0x0200 and `PC` there; the Clock runs, in chunks of 4. -/
def at0200 (bytes : List Byte) (cells : List Host.Cell) : State := { State.reset with
  pc := 0x0200, output := [], clock := ⟨1, 4, false, 0, false, none, none⟩, mem := withCells cells (place 0x0200 bytes []) }

/-- The start state of 95_test_vectors.md 2.7: the three vectors, `S` = 0xFF, and the given bytes at 0x0200. -/
def withVectors (bytes : List Byte) : State := { at0200 bytes
    [(0xFFFA, 0x00), (0xFFFB, 0x04), (0xFFFC, 0x00), (0xFFFD, 0x02), (0xFFFE, 0x00), (0xFFFF, 0x03)] with sp := 0xFF }

/-- Six flags in the order `N V D I Z C`. -/
def nvdizc (b : BitVec 6) : Flags :=
  ⟨b.getLsbD 5, b.getLsbD 4, b.getLsbD 3, b.getLsbD 2, b.getLsbD 1, b.getLsbD 0⟩

/-- A CPU step with this result, and a next state of which the test holds. -/
def onStep (r : CpuResult) (s : State) (test : State → Bool) : Bool :=
  match cpuStep s with
  | .next (q, t) => q == r && test t
  | .fault _ => false
  | .refused _ => false

/-- A next state of which the test holds. -/
def onNext (r : Result) (test : State → Bool) : Bool :=
  match r with
  | .next t => test t
  | .fault _ => false
  | .refused _ => false

theorem exists_of_onNext {r : Result} {test : State → Bool} (h : onNext r test = true) : ∃ t, r = .next t ∧ test t = true := by
  cases r with
  | next t => exact ⟨t, rfl, h⟩
  | fault e => simp [onNext] at h
  | refused e => simp [onNext] at h

theorem exists_of_onStep {r : CpuResult} {s : State} {test : State → Bool} (h : onStep r s test = true) :
    ∃ t, cpuStep s = .next (r, t) ∧ test t = true := by
  unfold onStep at h
  split at h
  · rename_i q t e
    simp only [Bool.and_eq_true, beq_iff_eq] at h
    exact ⟨t, by rw [e, h.1], h.2⟩
  · cases h
  · cases h

/-! ### Well-formedness: each check refuses an ill-formed term -/

/-- The Machine's own entries (95_test_vectors.md 1.1). -/
theorem test_bus_machine_accepted : busEntriesValid machineBus = true := by decide

theorem test_bus_adjacent_accepted : busEntriesValid [⟨0x0000, 0x0FFF, .ram0⟩, ⟨0x1000, 0x1FFF, .ram1⟩] = true := by decide

theorem test_bus_empty_accepted : busEntriesValid [] = true := by decide

/-- Both contain 0x0FFF. -/
theorem test_bus_shared_byte_refused : busEntriesValid [⟨0x0000, 0x0FFF, .ram0⟩, ⟨0x0FFF, 0x1FFF, .ram1⟩] = false := by decide

theorem test_bus_nested_refused : busEntriesValid [⟨0x0000, 0xFFFF, .ram0⟩, ⟨0xD010, 0xD013, .pia⟩] = false := by decide

theorem test_bus_same_byte_refused : busEntriesValid [⟨0x0010, 0x0010, .ram0⟩, ⟨0x0010, 0x0010, .ram1⟩] = false := by decide

theorem test_bus_inverted_refused : busEntriesValid [⟨0x0010, 0x000F, .ram0⟩] = false := by decide

theorem test_bus_out_of_range_refused : busEntriesValid [⟨0xFF00, 0x10000, .rom⟩] = false := by decide

/-- Parameters with images of these lengths. -/
def params (rom ram0 ram1 : Nat) (hz : Rat) (chunk : Nat) : Params :=
  ⟨List.replicate rom 0, List.replicate ram0 0, List.replicate ram1 0, false, false, hz, chunk⟩

theorem params_valid (rom ram0 ram1 : Nat) (hz : Rat) (chunk : Nat) : (params rom ram0 ram1 hz chunk).valid =
    (rom == 256 && ram0 == 4096 && ram1 == 4096 && decide (0 < hz) && decide (0 < chunk)) := by
  simp only [params, Params.valid, List.length_replicate]
  rfl

theorem test_params_accepted : (params 256 4096 4096 1 1).valid = true := by rw [params_valid]; decide

theorem test_params_short_rom_refused : (params 255 4096 4096 1 1).valid = false := by rw [params_valid]; decide

theorem test_params_long_ram0_refused : (params 256 4097 4096 1 1).valid = false := by rw [params_valid]; decide

theorem test_params_short_ram1_refused : (params 256 4096 4095 1 1).valid = false := by rw [params_valid]; decide

theorem test_params_frequency_refused : (params 256 4096 4096 0 1).valid = false := by rw [params_valid]; decide

theorem test_params_chunk_refused : (params 256 4096 4096 1 0).valid = false := by rw [params_valid]; decide

/-- A snapshot whose RAM part is `ram`. -/
def snapOf (ram : Memory) : Snapshot := { State.reset.snapshot with ram := ram }

theorem test_snapshot_accepted : (snapOf [(0x0000, 1), (0xEFFF, 2)]).wellFormed = true := by decide

theorem test_snapshot_rom_byte_refused : (snapOf [(0xFF00, 1)]).wellFormed = false := by decide

theorem test_snapshot_unordered_refused : (snapOf [(0x0002, 1), (0x0001, 2)]).wellFormed = false := by decide

theorem test_memory_unlisted_byte_refused : Memory.wf [(0x0000, 0x00)] = false := by decide

theorem test_memory_unmapped_address_refused : Memory.wf [(0x1000, 0x01)] = false := by decide

theorem test_instruction_accepted : (Instr.nop9C 0xFFFF).wellFormed = true := by decide

/-! ### Decoding: the grid of 30_encoding.md R106, row by row, with operand bytes 0x34 and 0x12 -/

/-- The instruction a list of bytes decodes to, if nothing is left over. -/
def whole (bytes : List Byte) : Option Instr :=
  match decode bytes with
  | .ok (i, []) => some i
  | _ => none

theorem test_decode_row_0 :
    [[0x00], [0x01, 0x34], [0x02], [0x03, 0x34], [0x04, 0x34], [0x05, 0x34], [0x06, 0x34], [0x07, 0x34], [0x08],
      [0x09, 0x34], [0x0A], [0x0B, 0x34], [0x0C, 0x34, 0x12], [0x0D, 0x34, 0x12], [0x0E, 0x34, 0x12], [0x0F, 0x34,
      0x12]].map whole =
      [.brk, .oraIzx 0x34, .nop02, .sloIzx 0x34, .nop04 0x34, .oraZp 0x34, .aslZp 0x34, .sloZp 0x34, .php, .oraImm
        0x34, .aslAcc, .anc0B 0x34, .nop0C 0x1234, .oraAbs 0x1234, .aslAbs 0x1234, .sloAbs 0x1234].map some := by
  decide

theorem test_decode_row_1 :
    [[0x10, 0x34], [0x11, 0x34], [0x12], [0x13, 0x34], [0x14, 0x34], [0x15, 0x34], [0x16, 0x34], [0x17, 0x34], [0x18],
      [0x19, 0x34, 0x12], [0x1A], [0x1B, 0x34, 0x12], [0x1C, 0x34, 0x12], [0x1D, 0x34, 0x12], [0x1E, 0x34, 0x12],
      [0x1F, 0x34, 0x12]].map whole =
      [.bpl 0x34, .oraIzy 0x34, .nop12, .sloIzy 0x34, .nop14 0x34, .oraZpx 0x34, .aslZpx 0x34, .sloZpx 0x34, .clc,
        .oraAby 0x1234, .nop1A, .sloAby 0x1234, .nop1C 0x1234, .oraAbx 0x1234, .aslAbx 0x1234, .sloAbx 0x1234].map
        some := by
  decide

theorem test_decode_row_2 :
    [[0x20, 0x34, 0x12], [0x21, 0x34], [0x22], [0x23, 0x34], [0x24, 0x34], [0x25, 0x34], [0x26, 0x34], [0x27, 0x34],
      [0x28], [0x29, 0x34], [0x2A], [0x2B, 0x34], [0x2C, 0x34, 0x12], [0x2D, 0x34, 0x12], [0x2E, 0x34, 0x12], [0x2F,
      0x34, 0x12]].map whole =
      [.jsr 0x1234, .andIzx 0x34, .nop22, .rlaIzx 0x34, .bitZp 0x34, .andZp 0x34, .rolZp 0x34, .rlaZp 0x34, .plp,
        .andImm 0x34, .rolAcc, .anc2B 0x34, .bitAbs 0x1234, .andAbs 0x1234, .rolAbs 0x1234, .rlaAbs 0x1234].map some := by
  decide

theorem test_decode_row_3 :
    [[0x30, 0x34], [0x31, 0x34], [0x32], [0x33, 0x34], [0x34, 0x34], [0x35, 0x34], [0x36, 0x34], [0x37, 0x34], [0x38],
      [0x39, 0x34, 0x12], [0x3A], [0x3B, 0x34, 0x12], [0x3C, 0x34, 0x12], [0x3D, 0x34, 0x12], [0x3E, 0x34, 0x12],
      [0x3F, 0x34, 0x12]].map whole =
      [.bmi 0x34, .andIzy 0x34, .nop32, .rlaIzy 0x34, .nop34 0x34, .andZpx 0x34, .rolZpx 0x34, .rlaZpx 0x34, .sec,
        .andAby 0x1234, .nop3A, .rlaAby 0x1234, .nop3C 0x1234, .andAbx 0x1234, .rolAbx 0x1234, .rlaAbx 0x1234].map
        some := by
  decide

theorem test_decode_row_4 :
    [[0x40], [0x41, 0x34], [0x42], [0x43, 0x34], [0x44, 0x34], [0x45, 0x34], [0x46, 0x34], [0x47, 0x34], [0x48],
      [0x49, 0x34], [0x4A], [0x4B, 0x34], [0x4C, 0x34, 0x12], [0x4D, 0x34, 0x12], [0x4E, 0x34, 0x12], [0x4F, 0x34,
      0x12]].map whole =
      [.rti, .eorIzx 0x34, .nop42, .sreIzx 0x34, .nop44 0x34, .eorZp 0x34, .lsrZp 0x34, .sreZp 0x34, .pha, .eorImm
        0x34, .lsrAcc, .alr 0x34, .jmpAbs 0x1234, .eorAbs 0x1234, .lsrAbs 0x1234, .sreAbs 0x1234].map some := by
  decide

theorem test_decode_row_5 :
    [[0x50, 0x34], [0x51, 0x34], [0x52], [0x53, 0x34], [0x54, 0x34], [0x55, 0x34], [0x56, 0x34], [0x57, 0x34], [0x58],
      [0x59, 0x34, 0x12], [0x5A], [0x5B, 0x34, 0x12], [0x5C, 0x34, 0x12], [0x5D, 0x34, 0x12], [0x5E, 0x34, 0x12],
      [0x5F, 0x34, 0x12]].map whole =
      [.bvc 0x34, .eorIzy 0x34, .nop52, .sreIzy 0x34, .nop54 0x34, .eorZpx 0x34, .lsrZpx 0x34, .sreZpx 0x34, .cli,
        .eorAby 0x1234, .nop5A, .sreAby 0x1234, .nop5C 0x1234, .eorAbx 0x1234, .lsrAbx 0x1234, .sreAbx 0x1234].map
        some := by
  decide

theorem test_decode_row_6 :
    [[0x60], [0x61, 0x34], [0x62], [0x63, 0x34], [0x64, 0x34], [0x65, 0x34], [0x66, 0x34], [0x67, 0x34], [0x68],
      [0x69, 0x34], [0x6A], [0x6B, 0x34], [0x6C, 0x34, 0x12], [0x6D, 0x34, 0x12], [0x6E, 0x34, 0x12], [0x6F, 0x34,
      0x12]].map whole =
      [.rts, .adcIzx 0x34, .nop62, .rraIzx 0x34, .nop64 0x34, .adcZp 0x34, .rorZp 0x34, .rraZp 0x34, .pla, .adcImm
        0x34, .rorAcc, .arr 0x34, .jmpInd 0x1234, .adcAbs 0x1234, .rorAbs 0x1234, .rraAbs 0x1234].map some := by
  decide

theorem test_decode_row_7 :
    [[0x70, 0x34], [0x71, 0x34], [0x72], [0x73, 0x34], [0x74, 0x34], [0x75, 0x34], [0x76, 0x34], [0x77, 0x34], [0x78],
      [0x79, 0x34, 0x12], [0x7A], [0x7B, 0x34, 0x12], [0x7C, 0x34, 0x12], [0x7D, 0x34, 0x12], [0x7E, 0x34, 0x12],
      [0x7F, 0x34, 0x12]].map whole =
      [.bvs 0x34, .adcIzy 0x34, .nop72, .rraIzy 0x34, .nop74 0x34, .adcZpx 0x34, .rorZpx 0x34, .rraZpx 0x34, .sei,
        .adcAby 0x1234, .nop7A, .rraAby 0x1234, .nop7C 0x1234, .adcAbx 0x1234, .rorAbx 0x1234, .rraAbx 0x1234].map
        some := by
  decide

theorem test_decode_row_8 :
    [[0x80, 0x34], [0x81, 0x34], [0x82, 0x34], [0x83, 0x34], [0x84, 0x34], [0x85, 0x34], [0x86, 0x34], [0x87, 0x34],
      [0x88], [0x89, 0x34], [0x8A], [0x8B, 0x34], [0x8C, 0x34, 0x12], [0x8D, 0x34, 0x12], [0x8E, 0x34, 0x12], [0x8F,
      0x34, 0x12]].map whole =
      [.nop80 0x34, .staIzx 0x34, .nop82 0x34, .saxIzx 0x34, .styZp 0x34, .staZp 0x34, .stxZp 0x34, .saxZp 0x34, .dey,
        .nop89 0x34, .txa, .nop8B 0x34, .styAbs 0x1234, .staAbs 0x1234, .stxAbs 0x1234, .saxAbs 0x1234].map some := by
  decide

theorem test_decode_row_9 :
    [[0x90, 0x34], [0x91, 0x34], [0x92], [0x93, 0x34], [0x94, 0x34], [0x95, 0x34], [0x96, 0x34], [0x97, 0x34], [0x98],
      [0x99, 0x34, 0x12], [0x9A], [0x9B, 0x34, 0x12], [0x9C, 0x34, 0x12], [0x9D, 0x34, 0x12], [0x9E, 0x34, 0x12],
      [0x9F, 0x34, 0x12]].map whole =
      [.bcc 0x34, .staIzy 0x34, .nop92, .nop93 0x34, .styZpx 0x34, .staZpx 0x34, .stxZpy 0x34, .saxZpy 0x34, .tya,
        .staAby 0x1234, .txs, .nop9B 0x1234, .nop9C 0x1234, .staAbx 0x1234, .nop9E 0x1234, .nop9F 0x1234].map some := by
  decide

theorem test_decode_row_A :
    [[0xA0, 0x34], [0xA1, 0x34], [0xA2, 0x34], [0xA3, 0x34], [0xA4, 0x34], [0xA5, 0x34], [0xA6, 0x34], [0xA7, 0x34],
      [0xA8], [0xA9, 0x34], [0xAA], [0xAB, 0x34], [0xAC, 0x34, 0x12], [0xAD, 0x34, 0x12], [0xAE, 0x34, 0x12], [0xAF,
      0x34, 0x12]].map whole =
      [.ldyImm 0x34, .ldaIzx 0x34, .ldxImm 0x34, .laxIzx 0x34, .ldyZp 0x34, .ldaZp 0x34, .ldxZp 0x34, .laxZp 0x34,
        .tay, .ldaImm 0x34, .tax, .nopAB 0x34, .ldyAbs 0x1234, .ldaAbs 0x1234, .ldxAbs 0x1234, .laxAbs 0x1234].map
        some := by
  decide

theorem test_decode_row_B :
    [[0xB0, 0x34], [0xB1, 0x34], [0xB2], [0xB3, 0x34], [0xB4, 0x34], [0xB5, 0x34], [0xB6, 0x34], [0xB7, 0x34], [0xB8],
      [0xB9, 0x34, 0x12], [0xBA], [0xBB, 0x34, 0x12], [0xBC, 0x34, 0x12], [0xBD, 0x34, 0x12], [0xBE, 0x34, 0x12],
      [0xBF, 0x34, 0x12]].map whole =
      [.bcs 0x34, .ldaIzy 0x34, .nopB2, .laxIzy 0x34, .ldyZpx 0x34, .ldaZpx 0x34, .ldxZpy 0x34, .laxZpy 0x34, .clv,
        .ldaAby 0x1234, .tsx, .las 0x1234, .ldyAbx 0x1234, .ldaAbx 0x1234, .ldxAby 0x1234, .laxAby 0x1234].map some := by
  decide

theorem test_decode_row_C :
    [[0xC0, 0x34], [0xC1, 0x34], [0xC2, 0x34], [0xC3, 0x34], [0xC4, 0x34], [0xC5, 0x34], [0xC6, 0x34], [0xC7, 0x34],
      [0xC8], [0xC9, 0x34], [0xCA], [0xCB, 0x34], [0xCC, 0x34, 0x12], [0xCD, 0x34, 0x12], [0xCE, 0x34, 0x12], [0xCF,
      0x34, 0x12]].map whole =
      [.cpyImm 0x34, .cmpIzx 0x34, .nopC2 0x34, .dcpIzx 0x34, .cpyZp 0x34, .cmpZp 0x34, .decZp 0x34, .dcpZp 0x34,
        .iny, .cmpImm 0x34, .dex, .sbx 0x34, .cpyAbs 0x1234, .cmpAbs 0x1234, .decAbs 0x1234, .dcpAbs 0x1234].map some := by
  decide

theorem test_decode_row_D :
    [[0xD0, 0x34], [0xD1, 0x34], [0xD2], [0xD3, 0x34], [0xD4, 0x34], [0xD5, 0x34], [0xD6, 0x34], [0xD7, 0x34], [0xD8],
      [0xD9, 0x34, 0x12], [0xDA], [0xDB, 0x34, 0x12], [0xDC, 0x34, 0x12], [0xDD, 0x34, 0x12], [0xDE, 0x34, 0x12],
      [0xDF, 0x34, 0x12]].map whole =
      [.bne 0x34, .cmpIzy 0x34, .nopD2, .dcpIzy 0x34, .nopD4 0x34, .cmpZpx 0x34, .decZpx 0x34, .dcpZpx 0x34, .cld,
        .cmpAby 0x1234, .nopDA, .dcpAby 0x1234, .nopDC 0x1234, .cmpAbx 0x1234, .decAbx 0x1234, .dcpAbx 0x1234].map
        some := by
  decide

theorem test_decode_row_E :
    [[0xE0, 0x34], [0xE1, 0x34], [0xE2, 0x34], [0xE3, 0x34], [0xE4, 0x34], [0xE5, 0x34], [0xE6, 0x34], [0xE7, 0x34],
      [0xE8], [0xE9, 0x34], [0xEA], [0xEB, 0x34], [0xEC, 0x34, 0x12], [0xED, 0x34, 0x12], [0xEE, 0x34, 0x12], [0xEF,
      0x34, 0x12]].map whole =
      [.cpxImm 0x34, .sbcIzx 0x34, .nopE2 0x34, .iscIzx 0x34, .cpxZp 0x34, .sbcZp 0x34, .incZp 0x34, .iscZp 0x34,
        .inx, .sbcImm 0x34, .nop, .usbc 0x34, .cpxAbs 0x1234, .sbcAbs 0x1234, .incAbs 0x1234, .iscAbs 0x1234].map some := by
  decide

theorem test_decode_row_F :
    [[0xF0, 0x34], [0xF1, 0x34], [0xF2], [0xF3, 0x34], [0xF4, 0x34], [0xF5, 0x34], [0xF6, 0x34], [0xF7, 0x34], [0xF8],
      [0xF9, 0x34, 0x12], [0xFA], [0xFB, 0x34, 0x12], [0xFC, 0x34, 0x12], [0xFD, 0x34, 0x12], [0xFE, 0x34, 0x12],
      [0xFF, 0x34, 0x12]].map whole =
      [.beq 0x34, .sbcIzy 0x34, .nopF2, .iscIzy 0x34, .nopF4 0x34, .sbcZpx 0x34, .incZpx 0x34, .iscZpx 0x34, .sed,
        .sbcAby 0x1234, .nopFA, .iscAby 0x1234, .nopFC 0x1234, .sbcAbx 0x1234, .incAbx 0x1234, .iscAbx 0x1234].map
        some := by
  decide

/-- The layout of `decodeTableWord`: byte 0 in bits 7..0; bits from `nbits` up are 0. -/
theorem test_decode_table_word : decodeTableWord 24 0x1234AD = some (.ldaAbs 0x1234) ∧
    decodeTableWord 8 0xAD = some (.ldaAbs 0x0000) ∧
    decodeTableWord 16 0xFF80A9 = some (.ldaImm 0x80) ∧ decodeTableWord 8 0x00 = some .brk := by decide

theorem test_encode : encode (.jmpInd 0x10FF) = [0x6C, 0xFF, 0x10] ∧ encode (.bne 0xFE) = [0xD0, 0xFE] ∧
    encode .rti = [0x40] := by decide

/-- `withFetchWord` makes the next step run the instruction, from reset. -/
theorem test_fetch_word : onNext (step (State.reset.withFetchWord 16 0x80A9))
    (fun t => t.a == 0x80 && t.flags.n && t.cycles == 2) = true := by decide

/-! ### One step of each mnemonic (95_test_vectors.md 2.1 to 2.6) -/

theorem test_adc_imm : onStep .ok
    { at0200 [0x69, 0x50] [] with a := 0x50 }
    (fun t => t.a == 0xA0 && t.flags == nvdizc 0b110000 && t.pc == 0x0202 && t.cycles == 2) = true := by decide

theorem test_adc_imm_2_decimal : onStep .ok
    { at0200 [0x69, 0x46] [] with a := 0x58, flags := nvdizc 0b001001 }
    (fun t => t.a == 0x05 && t.flags == nvdizc 0b111001 && t.pc == 0x0202 && t.cycles == 2) = true := by decide

theorem test_alr_imm : onStep .ok
    { at0200 [0x4B, 0xFE] [] with a := 0x01, flags := nvdizc 0b000001 }
    (fun t => t.a == 0x00 && t.flags == nvdizc 0b000010 && t.pc == 0x0202 && t.cycles == 2) = true := by decide

theorem test_anc_imm : onStep .ok
    { at0200 [0x0B, 0x80] [] with a := 0xFF }
    (fun t => t.a == 0x80 && t.flags == nvdizc 0b100001 && t.pc == 0x0202 && t.cycles == 2) = true := by decide

theorem test_and_imm : onStep .ok
    { at0200 [0x29, 0x0F] [] with a := 0xF0 }
    (fun t => t.a == 0x00 && t.flags == nvdizc 0b000010 && t.pc == 0x0202 && t.cycles == 2) = true := by decide

theorem test_arr_imm_decimal : onStep .ok
    { at0200 [0x6B, 0xFF] [] with a := 0x55, flags := nvdizc 0b001000 }
    (fun t => t.a == 0x80 && t.flags == nvdizc 0b011001 && t.pc == 0x0202 && t.cycles == 2) = true := by decide

theorem test_arr_imm : onStep .ok
    { at0200 [0x6B, 0xFF] [] with a := 0xC0, flags := nvdizc 0b000001 }
    (fun t => t.a == 0xE0 && t.flags == nvdizc 0b100001 && t.pc == 0x0202 && t.cycles == 2) = true := by decide

theorem test_asl_zp : onStep .ok
    (at0200 [0x06, 0x10] [(0x0010, 0xFF)])
    (fun t => t.mem.read 0x0010 == 0xFE && t.flags == nvdizc 0b100001 && t.pc == 0x0202 && t.cycles == 5) = true := by decide

theorem test_bcc_rel : onStep .ok
    (at0200 [0x90, 0x10] [])
    (fun t => t.flags == nvdizc 0b000000 && t.pc == 0x0212 && t.cycles == 3) = true := by decide

theorem test_bcs_rel : onStep .ok
    { at0200 [0xB0, 0x10] [] with flags := nvdizc 0b000001 }
    (fun t => t.flags == nvdizc 0b000001 && t.pc == 0x0212 && t.cycles == 3) = true := by decide

theorem test_beq_rel : onStep .ok
    { at0200 [0xF0, 0x10] [] with flags := nvdizc 0b000010 }
    (fun t => t.flags == nvdizc 0b000010 && t.pc == 0x0212 && t.cycles == 3) = true := by decide

theorem test_bit_zp : onStep .ok
    { at0200 [0x24, 0x10] [(0x0010, 0xC0)] with a := 0x01 }
    (fun t => t.a == 0x01 && t.flags == nvdizc 0b110010 && t.pc == 0x0202 && t.cycles == 3) = true := by decide

theorem test_bmi_rel : onStep .ok
    { at0200 [0x30, 0x10] [] with flags := nvdizc 0b100000 }
    (fun t => t.flags == nvdizc 0b100000 && t.pc == 0x0212 && t.cycles == 3) = true := by decide

theorem test_bne_rel : onStep .ok
    { at0200 [0xD0, 0x05] [] with flags := nvdizc 0b000010 }
    (fun t => t.flags == nvdizc 0b000010 && t.pc == 0x0202 && t.cycles == 2) = true := by decide

theorem test_bne_rel_2 : onStep .ok
    (at0200 [0xD0, 0x05] [])
    (fun t => t.flags == nvdizc 0b000000 && t.pc == 0x0207 && t.cycles == 3) = true := by decide

theorem test_bpl_rel : onStep .ok
    (at0200 [0x10, 0x10] [])
    (fun t => t.flags == nvdizc 0b000000 && t.pc == 0x0212 && t.cycles == 3) = true := by decide

theorem test_brk_imp : onStep .ok
    { at0200 [0x00, 0xEA] [(0xFFFE, 0x00), (0xFFFF, 0x03)] with sp := 0xFF, flags := nvdizc 0b101001 }
    (fun t => t.sp == 0xFC && t.mem.read 0x01FF == 0x02 && t.mem.read 0x01FE == 0x02 && t.mem.read 0x01FD == 0xB9 && t.flags ==
      nvdizc 0b101101 && t.pc == 0x0300 && t.cycles == 7) = true := by decide

theorem test_bvc_rel : onStep .ok
    (at0200 [0x50, 0x10] [])
    (fun t => t.flags == nvdizc 0b000000 && t.pc == 0x0212 && t.cycles == 3) = true := by decide

theorem test_bvs_rel : onStep .ok
    { at0200 [0x70, 0x10] [] with flags := nvdizc 0b010000 }
    (fun t => t.flags == nvdizc 0b010000 && t.pc == 0x0212 && t.cycles == 3) = true := by decide

theorem test_clc_imp : onStep .ok
    { at0200 [0x18] [] with flags := nvdizc 0b000001 }
    (fun t => t.flags == nvdizc 0b000000 && t.pc == 0x0201 && t.cycles == 2) = true := by decide

theorem test_cld_imp : onStep .ok
    { at0200 [0xD8] [] with flags := nvdizc 0b001000 }
    (fun t => t.flags == nvdizc 0b000000 && t.pc == 0x0201 && t.cycles == 2) = true := by decide

theorem test_cli_imp : onStep .ok
    { at0200 [0x58] [] with flags := nvdizc 0b000100 }
    (fun t => t.flags == nvdizc 0b000000 && t.pc == 0x0201 && t.cycles == 2) = true := by decide

theorem test_clv_imp : onStep .ok
    { at0200 [0xB8] [] with flags := nvdizc 0b010000 }
    (fun t => t.flags == nvdizc 0b000000 && t.pc == 0x0201 && t.cycles == 2) = true := by decide

theorem test_cmp_imm : onStep .ok
    { at0200 [0xC9, 0x10] [] with a := 0x10, flags := nvdizc 0b010000 }
    (fun t => t.a == 0x10 && t.flags == nvdizc 0b010011 && t.pc == 0x0202 && t.cycles == 2) = true := by decide

theorem test_cpx_zp : onStep .ok
    { at0200 [0xE4, 0x10] [(0x0010, 0x06)] with x := 0x05 }
    (fun t => t.x == 0x05 && t.flags == nvdizc 0b100000 && t.pc == 0x0202 && t.cycles == 3) = true := by decide

theorem test_cpy_zp : onStep .ok
    { at0200 [0xC4, 0x10] [(0x0010, 0x80)] with y := 0x80 }
    (fun t => t.y == 0x80 && t.flags == nvdizc 0b000011 && t.pc == 0x0202 && t.cycles == 3) = true := by decide

theorem test_dcp_izx : onStep .ok
    { at0200 [0xC3, 0x10] [(0x0012, 0x00), (0x0013, 0x03), (0x0300, 0x00)] with x := 0x02 }
    (fun t => t.a == 0x00 && t.mem.read 0x0300 == 0xFF && t.flags == nvdizc 0b000000 && t.pc == 0x0202 && t.cycles == 8) = true
      := by decide

theorem test_dec_zp : onStep .ok
    (at0200 [0xC6, 0x10] [(0x0010, 0x00)])
    (fun t => t.mem.read 0x0010 == 0xFF && t.flags == nvdizc 0b100000 && t.pc == 0x0202 && t.cycles == 5) = true := by decide

theorem test_dex_imp : onStep .ok
    (at0200 [0xCA] [])
    (fun t => t.x == 0xFF && t.flags == nvdizc 0b100000 && t.pc == 0x0201 && t.cycles == 2) = true := by decide

theorem test_dey_imp : onStep .ok
    { at0200 [0x88] [] with y := 0x80 }
    (fun t => t.y == 0x7F && t.flags == nvdizc 0b000000 && t.pc == 0x0201 && t.cycles == 2) = true := by decide

theorem test_eor_izy : onStep .ok
    { at0200 [0x51, 0x20] [(0x0020, 0x00), (0x0021, 0x03), (0x0300, 0x55)] with a := 0xAA }
    (fun t => t.a == 0xFF && t.flags == nvdizc 0b100000 && t.pc == 0x0202 && t.cycles == 5) = true := by decide

theorem test_inc_zp : onStep .ok
    { at0200 [0xE6, 0x10] [(0x0010, 0xFF)] with flags := nvdizc 0b000001 }
    (fun t => t.mem.read 0x0010 == 0x00 && t.flags == nvdizc 0b000011 && t.pc == 0x0202 && t.cycles == 5) = true := by decide

theorem test_inx_imp : onStep .ok
    { at0200 [0xE8] [] with x := 0xFF }
    (fun t => t.x == 0x00 && t.flags == nvdizc 0b000010 && t.pc == 0x0201 && t.cycles == 2) = true := by decide

theorem test_iny_imp : onStep .ok
    { at0200 [0xC8] [] with y := 0xFF }
    (fun t => t.y == 0x00 && t.flags == nvdizc 0b000010 && t.pc == 0x0201 && t.cycles == 2) = true := by decide

theorem test_isc_abx : onStep .ok
    { at0200 [0xFF, 0x00, 0x03] [(0x0301, 0xFF)] with x := 0x01, flags := nvdizc 0b000001 }
    (fun t => t.a == 0x00 && t.mem.read 0x0301 == 0x00 && t.flags == nvdizc 0b000011 && t.pc == 0x0203 && t.cycles == 7) = true
      := by decide

theorem test_isc_zp_decimal : onStep .ok
    { at0200 [0xE7, 0x10] [(0x0010, 0x27)] with a := 0x47, flags := nvdizc 0b001001 }
    (fun t => t.a == 0x19 && t.mem.read 0x0010 == 0x28 && t.flags == nvdizc 0b001001 && t.pc == 0x0202 && t.cycles == 5) = true
      := by decide

theorem test_jmp_ind : onStep .ok
    (at0200 [0x6C, 0xFF, 0x03] [(0x03FF, 0x78), (0x0300, 0x06), (0x0400, 0x99)])
    (fun t => t.flags == nvdizc 0b000000 && t.pc == 0x0678 && t.cycles == 5) = true := by decide

theorem test_jmp_abs : onStep .ok
    (at0200 [0x4C, 0x34, 0x12] [])
    (fun t => t.flags == nvdizc 0b000000 && t.pc == 0x1234 && t.cycles == 3) = true := by decide

theorem test_jsr_abs : onStep .ok
    (at0200 [0x20, 0x00, 0x03] [])
    (fun t => t.sp == 0xFE && t.mem.read 0x0100 == 0x02 && t.mem.read 0x01FF == 0x02 && t.flags == nvdizc 0b000000 && t.pc ==
      0x0300 && t.cycles == 6) = true := by decide

theorem test_las_aby : onStep .ok
    { at0200 [0xBB, 0x00, 0x03] [(0x0300, 0x8F)] with sp := 0xF0 }
    (fun t => t.a == 0x80 && t.x == 0x80 && t.sp == 0x80 && t.flags == nvdizc 0b100000 && t.pc == 0x0203 && t.cycles == 4) =
      true := by decide

theorem test_las_aby_2 : onStep .ok
    { at0200 [0xBB, 0x00, 0x03] [(0x0300, 0xF0)] with sp := 0x0F }
    (fun t => t.a == 0x00 && t.x == 0x00 && t.sp == 0x00 && t.flags == nvdizc 0b000010 && t.pc == 0x0203 && t.cycles == 4) =
      true := by decide

theorem test_lax_aby : onStep .ok
    { at0200 [0xBF, 0xFF, 0x02] [(0x0300, 0x00)] with a := 0x55, x := 0x55, y := 0x01 }
    (fun t => t.a == 0x00 && t.x == 0x00 && t.flags == nvdizc 0b000010 && t.pc == 0x0203 && t.cycles == 5) = true := by decide

theorem test_lda_izy : onStep .ok
    { at0200 [0xB1, 0xFF] [(0x00FF, 0xFF), (0x0000, 0x02), (0x0300, 0x5A)] with y := 0x01 }
    (fun t => t.a == 0x5A && t.flags == nvdizc 0b000000 && t.pc == 0x0202 && t.cycles == 6) = true := by decide

theorem test_lda_abx : onStep .ok
    { at0200 [0xBD, 0xFF, 0x02] [(0x0300, 0xAA)] with x := 0x01 }
    (fun t => t.a == 0xAA && t.flags == nvdizc 0b100000 && t.pc == 0x0203 && t.cycles == 5) = true := by decide

theorem test_ldx_zpy : onStep .ok
    { at0200 [0xB6, 0x80] [(0x0010, 0x33)] with y := 0x90 }
    (fun t => t.x == 0x33 && t.flags == nvdizc 0b000000 && t.pc == 0x0202 && t.cycles == 4) = true := by decide

theorem test_ldy_abx : onStep .ok
    { at0200 [0xBC, 0x00, 0x03] [(0x03FF, 0x01)] with x := 0xFF }
    (fun t => t.y == 0x01 && t.flags == nvdizc 0b000000 && t.pc == 0x0203 && t.cycles == 4) = true := by decide

theorem test_lsr_acc : onStep .ok
    { at0200 [0x4A] [] with a := 0x01, flags := nvdizc 0b100000 }
    (fun t => t.a == 0x00 && t.flags == nvdizc 0b000011 && t.pc == 0x0201 && t.cycles == 2) = true := by decide

theorem test_nop1C : onStep .ok
    { at0200 [0x1C, 0xFF, 0x02] [] with x := 0x01 }
    (fun t => t.flags == nvdizc 0b000000 && t.pc == 0x0203 && t.cycles == 5) = true := by decide

theorem test_nop1C_2 : onStep .ok
    { at0200 [0x1C, 0x00, 0x03] [] with x := 0x01 }
    (fun t => t.flags == nvdizc 0b000000 && t.pc == 0x0203 && t.cycles == 4) = true := by decide

theorem test_nop93 : onStep .ok
    { at0200 [0x93, 0x20] [(0x0020, 0x01), (0x0021, 0x03)] with a := 0xFF, x := 0xFF, y := 0xFF }
    (fun t => t.flags == nvdizc 0b000000 && t.pc == 0x0202 && t.cycles == 6) = true := by decide

theorem test_nopEA : onStep .ok
    { at0200 [0xEA] [] with a := 0x12, flags := nvdizc 0b100001 }
    (fun t => t.a == 0x12 && t.flags == nvdizc 0b100001 && t.pc == 0x0201 && t.cycles == 2) = true := by decide

theorem test_nop1A : onStep .ok
    { at0200 [0x1A] [] with a := 0x01, flags := nvdizc 0b100000 }
    (fun t => t.a == 0x01 && t.flags == nvdizc 0b100000 && t.pc == 0x0201 && t.cycles == 2) = true := by decide

theorem test_ora_imm : onStep .ok
    { at0200 [0x09, 0x80] [] with a := 0x01 }
    (fun t => t.a == 0x81 && t.flags == nvdizc 0b100000 && t.pc == 0x0202 && t.cycles == 2) = true := by decide

theorem test_pha_imp : onStep .ok
    { at0200 [0x48] [] with a := 0x42 }
    (fun t => t.sp == 0xFF && t.mem.read 0x0100 == 0x42 && t.flags == nvdizc 0b000000 && t.pc == 0x0201 && t.cycles == 3) = true
      := by decide

theorem test_php_imp : onStep .ok
    { at0200 [0x08] [] with sp := 0xFF, flags := nvdizc 0b100001 }
    (fun t => t.sp == 0xFE && t.mem.read 0x01FF == 0xB1 && t.flags == nvdizc 0b100001 && t.pc == 0x0201 && t.cycles == 3) = true
      := by decide

theorem test_pla_imp : onStep .ok
    { at0200 [0x68] [(0x0100, 0x00)] with a := 0x55, sp := 0xFF }
    (fun t => t.a == 0x00 && t.sp == 0x00 && t.flags == nvdizc 0b000010 && t.pc == 0x0201 && t.cycles == 4) = true := by decide

theorem test_plp_imp : onStep .ok
    { at0200 [0x28] [(0x01FF, 0xFF)] with sp := 0xFE }
    (fun t => t.sp == 0xFF && t.flags == nvdizc 0b111111 && t.pc == 0x0201 && t.cycles == 4) = true := by decide

theorem test_plp_imp_2 : onStep .ok
    { at0200 [0x28] [(0x01FF, 0x00)] with sp := 0xFE, flags := nvdizc 0b111111 }
    (fun t => t.sp == 0xFF && t.flags == nvdizc 0b000000 && t.pc == 0x0201 && t.cycles == 4) = true := by decide

theorem test_rla_zp : onStep .ok
    { at0200 [0x27, 0x10] [(0x0010, 0x80)] with a := 0xFF, flags := nvdizc 0b000001 }
    (fun t => t.a == 0x01 && t.mem.read 0x0010 == 0x01 && t.flags == nvdizc 0b000001 && t.pc == 0x0202 && t.cycles == 5) = true
      := by decide

theorem test_rol_zp : onStep .ok
    { at0200 [0x26, 0x10] [(0x0010, 0x7F)] with flags := nvdizc 0b000001 }
    (fun t => t.mem.read 0x0010 == 0xFF && t.flags == nvdizc 0b100000 && t.pc == 0x0202 && t.cycles == 5) = true := by decide

theorem test_ror_zpx : onStep .ok
    { at0200 [0x76, 0x10] [(0x0011, 0xFF)] with x := 0x01, flags := nvdizc 0b000001 }
    (fun t => t.mem.read 0x0011 == 0xFF && t.flags == nvdizc 0b100001 && t.pc == 0x0202 && t.cycles == 6) = true := by decide

theorem test_rra_zp_decimal : onStep .ok
    { at0200 [0x67, 0x10] [(0x0010, 0x50)] with a := 0x19, flags := nvdizc 0b001000 }
    (fun t => t.a == 0x47 && t.mem.read 0x0010 == 0x28 && t.flags == nvdizc 0b001000 && t.pc == 0x0202 && t.cycles == 5) = true
      := by decide

theorem test_rra_zp : onStep .ok
    { at0200 [0x67, 0x10] [(0x0010, 0x02)] with a := 0x10, flags := nvdizc 0b000001 }
    (fun t => t.a == 0x91 && t.mem.read 0x0010 == 0x81 && t.flags == nvdizc 0b100000 && t.pc == 0x0202 && t.cycles == 5) = true
      := by decide

theorem test_rti_imp : onStep .ok
    { at0200 [0x40] [(0x01FD, 0xF3), (0x01FE, 0x34), (0x01FF, 0x12)] with sp := 0xFC }
    (fun t => t.sp == 0xFF && t.flags == nvdizc 0b110011 && t.pc == 0x1234 && t.cycles == 6) = true := by decide

theorem test_rts_imp : onStep .ok
    { at0200 [0x60] [(0x01FE, 0xFF), (0x01FF, 0xFF)] with sp := 0xFD }
    (fun t => t.sp == 0xFF && t.flags == nvdizc 0b000000 && t.pc == 0x0000 && t.cycles == 6) = true := by decide

theorem test_sax_zpy : onStep .ok
    { at0200 [0x97, 0xFF] [] with a := 0xFF, x := 0x0F, y := 0x02 }
    (fun t => t.mem.read 0x0001 == 0x0F && t.flags == nvdizc 0b000000 && t.pc == 0x0202 && t.cycles == 4) = true := by decide

theorem test_sbc_imm : onStep .ok
    { at0200 [0xE9, 0xB0] [] with a := 0x50, flags := nvdizc 0b000001 }
    (fun t => t.a == 0xA0 && t.flags == nvdizc 0b110000 && t.pc == 0x0202 && t.cycles == 2) = true := by decide

theorem test_sbc_imm_2_decimal : onStep .ok
    { at0200 [0xE9, 0x01] [] with flags := nvdizc 0b001001 }
    (fun t => t.a == 0x99 && t.flags == nvdizc 0b101000 && t.pc == 0x0202 && t.cycles == 2) = true := by decide

theorem test_sbx_imm : onStep .ok
    { at0200 [0xCB, 0x01] [] with a := 0xFF, x := 0x0F, flags := nvdizc 0b010000 }
    (fun t => t.a == 0xFF && t.x == 0x0E && t.flags == nvdizc 0b010001 && t.pc == 0x0202 && t.cycles == 2) = true := by decide

theorem test_sec_imp : onStep .ok
    (at0200 [0x38] [])
    (fun t => t.flags == nvdizc 0b000001 && t.pc == 0x0201 && t.cycles == 2) = true := by decide

theorem test_sed_imp : onStep .ok
    (at0200 [0xF8] [])
    (fun t => t.flags == nvdizc 0b001000 && t.pc == 0x0201 && t.cycles == 2) = true := by decide

theorem test_sei_imp : onStep .ok
    (at0200 [0x78] [])
    (fun t => t.flags == nvdizc 0b000100 && t.pc == 0x0201 && t.cycles == 2) = true := by decide

theorem test_slo_abx : onStep .ok
    { at0200 [0x1F, 0xFF, 0x02] [(0x0300, 0x40)] with x := 0x01 }
    (fun t => t.a == 0x80 && t.mem.read 0x0300 == 0x80 && t.flags == nvdizc 0b100000 && t.pc == 0x0203 && t.cycles == 7) = true
      := by decide

theorem test_sre_zp : onStep .ok
    { at0200 [0x47, 0x10] [(0x0010, 0x03)] with a := 0xFF }
    (fun t => t.a == 0xFE && t.mem.read 0x0010 == 0x01 && t.flags == nvdizc 0b100001 && t.pc == 0x0202 && t.cycles == 5) = true
      := by decide

theorem test_sta_izy : onStep .ok
    { at0200 [0x91, 0x20] [(0x0020, 0xF8), (0x0021, 0x02)] with a := 0x78, y := 0x10 }
    (fun t => t.mem.read 0x0308 == 0x78 && t.flags == nvdizc 0b000000 && t.pc == 0x0202 && t.cycles == 6) = true := by decide

theorem test_stx_zpy : onStep .ok
    { at0200 [0x96, 0xFF] [] with x := 0x99, y := 0x02 }
    (fun t => t.mem.read 0x0001 == 0x99 && t.flags == nvdizc 0b000000 && t.pc == 0x0202 && t.cycles == 4) = true := by decide

theorem test_sty_zp : onStep .ok
    { at0200 [0x84, 0x10] [] with y := 0x77 }
    (fun t => t.mem.read 0x0010 == 0x77 && t.flags == nvdizc 0b000000 && t.pc == 0x0202 && t.cycles == 3) = true := by decide

theorem test_tax_imp : onStep .ok
    { at0200 [0xAA] [] with a := 0x80 }
    (fun t => t.x == 0x80 && t.flags == nvdizc 0b100000 && t.pc == 0x0201 && t.cycles == 2) = true := by decide

theorem test_tay_imp : onStep .ok
    { at0200 [0xA8] [] with y := 0x55 }
    (fun t => t.y == 0x00 && t.flags == nvdizc 0b000010 && t.pc == 0x0201 && t.cycles == 2) = true := by decide

theorem test_tsx_imp : onStep .ok
    { at0200 [0xBA] [] with sp := 0xFD }
    (fun t => t.x == 0xFD && t.flags == nvdizc 0b100000 && t.pc == 0x0201 && t.cycles == 2) = true := by decide

theorem test_txa_imp : onStep .ok
    { at0200 [0x8A] [] with a := 0x11 }
    (fun t => t.a == 0x00 && t.flags == nvdizc 0b000010 && t.pc == 0x0201 && t.cycles == 2) = true := by decide

theorem test_txs_imp : onStep .ok
    { at0200 [0x9A] [] with x := 0x80, flags := nvdizc 0b000010 }
    (fun t => t.sp == 0x80 && t.flags == nvdizc 0b000010 && t.pc == 0x0201 && t.cycles == 2) = true := by decide

theorem test_tya_imp : onStep .ok
    { at0200 [0x98] [] with y := 0xF0 }
    (fun t => t.a == 0xF0 && t.flags == nvdizc 0b100000 && t.pc == 0x0201 && t.cycles == 2) = true := by decide

theorem test_usbc_imm_decimal : onStep .ok
    { at0200 [0xEB, 0x01] [] with a := 0x10, flags := nvdizc 0b001001 }
    (fun t => t.a == 0x09 && t.flags == nvdizc 0b001001 && t.pc == 0x0202 && t.cycles == 2) = true := by decide

theorem test_usbc_imm : onStep .ok
    { at0200 [0xEB, 0x01] [] with flags := nvdizc 0b000001 }
    (fun t => t.a == 0xFF && t.flags == nvdizc 0b100000 && t.pc == 0x0202 && t.cycles == 2) = true := by decide

/-! ### Interrupts, hook, reset, PIA, host (95_test_vectors.md 1.5, 2.7 to 2.11) -/

/-- I1: IRQ taken; the pushed status has bit 4 clear. -/
theorem test_irq_taken : onStep .irq
    { withVectors [0xEA] with flags := nvdizc 0b000001, inputs := ⟨true, false, false⟩ }
    (fun t => t.mem.read 0x01FF == 0x02 && t.mem.read 0x01FE == 0x00 && t.mem.read 0x01FD == 0x21 && t.sp == 0xFC &&
      t.pc == 0x0300 && t.flags == nvdizc 0b000101 && t.cycles == 7) = true := by decide

/-- I2: IRQ masked. -/
theorem test_irq_masked : onStep .ok
    { withVectors [0xEA] with flags := nvdizc 0b000100, inputs := ⟨true, false, false⟩ }
    (fun t => t.pc == 0x0201 && t.cycles == 2 && t.sp == 0xFF) = true := by decide

/-- I4: NMI is not masked. -/
theorem test_nmi_taken : onStep .nmi
    (({ withVectors [0xEA] with flags := nvdizc 0b000100 } : State).setNmiLine true)
    (fun t => t.mem.read 0x01FD == 0x24 && t.pc == 0x0400 && !t.inputs.nmiPending && t.inputs.nmiLine && t.cycles == 7) = true := by
  decide

/-- I4: a line held high is no second edge. -/
theorem test_nmi_edge : (({ withVectors [0xEA] with inputs := ⟨false, true, false⟩ } : State).setNmiLine true).inputs.nmiPending =
    false := by decide

/-- I5: NMI before IRQ at the same boundary. -/
theorem test_nmi_before_irq : onStep .nmi { withVectors [0xEA] with inputs := ⟨true, true, true⟩ }
    (fun t => t.pc == 0x0400 && t.mem.read 0x01FD == 0x20 && t.inputs.irqLine) = true := by decide

/-- 2.8: the hook halts before the pending IRQ. -/
theorem test_hook_halts : onStep .halted
    { withVectors [0xE8, 0xE8] with hook := .breakpoint [0x0200], inputs := ⟨true, false, false⟩ }
    (fun t => t.pc == 0x0200 && t.x == 0x00 && t.cycles == 0) = true := by decide

/-- 2.8: `StepOne` runs the instruction the hook halts on. -/
theorem test_step_one : onNext (stepOne { withVectors [0xE8, 0xE8] with pc := 0x0201, hook := .breakpoint [0x0201] })
    (fun t => t.x == 0x01 && t.pc == 0x0202 && t.hook == .breakpoint [0x0201] && t.hostEvents == []) = true := by decide

/-- 2.9: a host reset keeps cycles, opcode, the IRQ line and RAM, and flushes. -/
theorem test_reset : onNext (step
    { withVectors [0x99] with
      a := 0x12, sp := 0x78, flags := nvdizc 0b111111, cycles := 1000, opcode := 0xEA, inputs := ⟨true, false, true⟩,
      pia := ⟨⟨0xAA, 0xF0, 0xA7, true, false, false, false⟩, ⟨0xBB, 0x7F, 0x27, false, false, false, false⟩, true, false⟩,
      agenda := [.host .reset] })
    (fun t => t.a == 0x00 && t.sp == 0x00 && t.flags == nvdizc 0b000000 && t.cycles == 1000 && t.opcode == 0xEA &&
      t.inputs == ⟨true, false, false⟩ && t.pc == 0x0200 && t.mem.read 0x0200 == 0x99 &&
      t.pia == ⟨Port.cleared, Port.cleared, false, false⟩) = true := by decide

/-- A PIA with these control registers. -/
def piaOf (cra crb : Byte) : Pia := ⟨⟨0, 0, cra, false, false, false, false⟩, ⟨0, 0, crb, false, false, false, false⟩, false, false⟩

/-- P1: the direction register, then the data register, at the same offset. -/
theorem test_pia_port_a : ((piaOf 0x00 0x00).write 0 0xF0).1.portA.ddr = 0xF0 ∧ ((piaOf 0x00 0x00).write 0 0xF0).2 = [] ∧
    ((piaOf 0x04 0x00).write 0 0xAB).1.portA.output = 0xAB ∧ ((piaOf 0x04 0x00).write 0 0xAB).2 = [.sinkWrite .a 0xAB] := by decide

/-- P1: `PortAInput` takes the input bits only. -/
theorem test_port_a_input : (({ piaOf 0x04 0x00 with portA := ⟨0xAB, 0xF0, 0x04, false, false, false, false⟩ } : Pia).portAInput
    0x5C).portA.output = 0xAC := by decide

/-- P2: bits 7 and 6 of a control register are not writable. -/
theorem test_control_write : ((piaOf 0x00 0x00).write 1 0xFF).1.portA.control = 0x3F ∧
    ((piaOf 0x82 0x00).write 1 0x3F).1.portA.control = 0xBF ∧ ((piaOf 0xBF 0x00).write 1 0x00).1.portA.control = 0x80 := by decide

/-- P3: rising and falling edges of CA1, and the read that clears the flag. -/
theorem test_c1_edges : ((piaOf 0x06 0x00).setLine .a .c1 true).portA.control = 0x86 ∧
    (((piaOf 0x06 0x00).setLine .a .c1 true).setLine .a .c1 false).portA.control = 0x86 ∧
    ((piaOf 0x04 0x00).setLine .a .c1 true).portA.control = 0x04 ∧
    (((piaOf 0x04 0x00).setLine .a .c1 true).setLine .a .c1 false).portA.control = 0x84 ∧
    ((piaOf 0x86 0x00).read 0).2.portA.control = 0x06 ∧ ((piaOf 0x83 0x00).read 0).2.portA.control = 0x83 := by decide

/-- P4: C2 edges, its output mode, and the read that leaves bit 6. -/
theorem test_c2_edges : ((piaOf 0x1C 0x00).setLine .a .c2 true).portA.control = 0x5C ∧
    ((piaOf 0x1C 0x00).setLine .a .c2 true).portA.irq = true ∧ ((piaOf 0x5C 0x00).read 0).2.portA.control = 0x5C ∧
    ((piaOf 0x14 0x00).setLine .a .c2 true).portA.irq = false ∧ ((piaOf 0x3C 0x00).setLine .a .c2 true).portA.control = 0x3C ∧
    (((piaOf 0x00 0x0C).setLine .b .c2 true).setLine .b .c2 false).portB.control = 0x4C := by decide

/-- P5: the override of port B bit 7. -/
theorem test_pb7 : (({ piaOf 0x00 0x04 with pb7Override := true } : Pia).read 2).1 = 0x80 ∧
    (({ piaOf 0x00 0x04 with portB := ⟨0xFF, 0x7F, 0x04, false, false, false, false⟩ } : Pia).read 2).1 = 0x7F := by decide

/-- 2.11: `HostRead` past the end reads 0, `HostWrite` out of range is rejected, and one to ROM is dropped. -/
theorem test_host_access : ((withVectors []).hostReadBytes 0xFFFF 2).1 = [0x03, 0x00] ∧
    (hostWrite 0x10000 1 (withVectors [])).mem = (withVectors []).mem ∧
    (hostWrite 0xFF00 1 (withVectors [])).mem = (withVectors []).mem ∧
    (hostWrite 0x0010 4 (withVectors [])).mem.read 0x0010 = 0x04 := by decide

/-- 2.11: nothing runs while paused. -/
theorem test_paused : onNext (step { at0200 [0xE8] [] with clock := State.reset.clock }) (fun t => t.pc == 0x0200 && t.cycles == 0) =
    true := by decide

/-! ### Witnesses: for each statement with hypotheses, a concrete state and operands that meet them, one for each clause -/

/-- A state with the operand page filled for the indexed modes: `X` and `Y` are 1. -/
def indexed : State := { at0200 [] [(0x00FF, 0xFF), (0x0300, 0x5A), (0xE000, 0x77)] with x := 0x01, y := 0x01, sp := 0xFF }

theorem witness_DecodeEncodeAgree : (Instr.jmpInd 0x10FF).wellFormed = true ∧
    decode [0x6C, 0xFF, 0x10, 0xEA] = .ok (.jmpInd 0x10FF, [0xEA]) := ⟨by decide, rfl⟩

/-- A branch not taken, taken, taken across a page; a read with and without the penalty; an opcode without one. -/
theorem witness_CycleCost : onNext (exec (.bne 0x80) { indexed with flags := nvdizc 0b000010 }) (fun t => t.cycles == 2) = true ∧
    onNext (exec (.bne 0x7F) indexed) (fun t => t.cycles == 3) = true ∧
    onNext (exec (.bne 0x80) indexed) (fun t => t.cycles == 4) = true ∧
    onNext (exec (.ldaAbx 0x02FF) indexed) (fun t => t.cycles == 5) = true ∧
    onNext (exec (.ldaAbx 0x02FE) indexed) (fun t => t.cycles == 4) = true ∧
    onNext (exec (.staAbx 0x02FF) indexed) (fun t => t.cycles == 5) = true := by decide

theorem witness_CostBounds : onStep .halted { at0200 [] [] with hook := .breakpoint [0x0200] } (fun t => t.cycles == 0) = true ∧
    onStep .nmi { at0200 [] [] with inputs := ⟨false, true, true⟩ } (fun t => t.cycles == 7) = true ∧
    onStep .irq { at0200 [] [] with inputs := ⟨true, false, false⟩ } (fun t => t.cycles == 7) = true ∧
    onStep .ok (at0200 [0xEA] []) (fun t => t.cycles == 2) = true ∧
    onStep .ok (at0200 [0x03, 0x10] []) (fun t => t.cycles == 8) = true := by decide

theorem witness_LoadResults : (Instr.ldaIzy 0xFF).mnemonic = .lda ∧ (Instr.ldxAby 0x02FF).mnemonic = .ldx ∧
    (Instr.ldyAbx 0x02FF).mnemonic = .ldy ∧ (Instr.laxAby 0x02FF).mnemonic = .lax ∧ (Instr.las 0x02FF).mnemonic = .las := by decide

/-- The last byte of RAM0 and the first and last of RAM1, and the unmapped byte behind each. -/
theorem witness_StoreResults : (Instr.staAbs 0x0FFF).mnemonic = .sta ∧ (Instr.stxAbs 0xE000).mnemonic = .stx ∧
    (Instr.styAbs 0xEFFF).mnemonic = .sty ∧ (Instr.saxAbs 0x1000).mnemonic = .sax ∧
    isRam (effectiveAddress (.staAbs 0x0FFF) indexed).addr.toNat = true ∧
    isRam (effectiveAddress (.stxAbs 0xE000) indexed).addr.toNat = true ∧
    isRam (effectiveAddress (.styAbs 0xEFFF) indexed).addr.toNat = true ∧
    isRam (effectiveAddress (.saxAbs 0x1000) indexed).addr.toNat = false ∧
    0x1000 ≠ (effectiveAddress (.staAbs 0x0FFF) indexed).addr.toNat := by decide

theorem witness_AdcSbcResults : (Instr.adcImm 0x99).mnemonic = .adc ∧ (Instr.sbcIzx 0xFF).mnemonic = .sbc ∧
    (Instr.usbc 0x01).mnemonic = .usbc := by decide

/-- The largest decimal operands, for `AdcDecimalLaw` and `SbcDecimalLaw`: 99 and 99. -/
theorem witness_AdcDecimalLaw : (0x99 : Byte).toNat % 16 ≤ 9 ∧ (0x99 : Byte).toNat / 16 ≤ 9 ∧
    (adcDecimal 0x99 0x99 (nvdizc 0b001001)).1 = 0x99 ∧ (adcDecimal 0x99 0x99 (nvdizc 0b001001)).2.c = true := by decide

theorem witness_SbcDecimalLaw : (0x00 : Byte).toNat % 16 ≤ 9 ∧ (0x99 : Byte).toNat / 16 ≤ 9 ∧
    (sbcDecimal 0x00 0x99 (nvdizc 0b001000)).1 = 0x00 ∧ (sbcDecimal 0x00 0x99 (nvdizc 0b001000)).2.c = false := by decide

theorem witness_CompareResults : (Instr.cmpImm 0x80).mnemonic = .cmp ∧ (Instr.cpxAbs 0x0300).mnemonic = .cpx ∧
    (Instr.cpyZp 0xFF).mnemonic = .cpy := by decide

theorem witness_IncDecResults : (Instr.incAbx 0x02FF).mnemonic = .inc ∧ (Instr.decZpx 0xFF).mnemonic = .dec := by decide

theorem witness_LogicResults : (Instr.andIzx 0xFF).mnemonic = .and ∧ (Instr.oraImm 0x80).mnemonic = .ora ∧
    (Instr.eorAbs 0x0300).mnemonic = .eor ∧ (Instr.bitAbs 0xD012).mnemonic = .bit := by decide

theorem witness_ShiftResults : (Instr.aslAcc).mnemonic = .asl ∧ (Instr.lsrAbx 0x02FF).mnemonic = .lsr ∧ (Instr.rolZp 0xFF).mnemonic = .rol ∧
    (Instr.rorAcc).mnemonic = .ror ∧ (Instr.aslAcc).mode = .acc ∧ (Instr.lsrAbx 0x02FF).mode ≠ .acc := by decide

theorem witness_CombinedResults : (Instr.sloIzx 0xFF).mnemonic = .slo ∧ (Instr.rlaIzy 0xFF).mnemonic = .rla ∧
    (Instr.sreAby 0x02FF).mnemonic = .sre ∧ (Instr.rraAbx 0x02FF).mnemonic = .rra ∧ (Instr.dcpZp 0x10).mnemonic = .dcp ∧
    (Instr.iscAbs 0xD012).mnemonic = .isc := by decide

/-- Both encodings of ANC, and ARR in both modes. -/
theorem witness_ImmediateCombinationResults : (Instr.anc0B 0x80).mnemonic = .anc ∧ (Instr.anc2B 0x7F).mnemonic = .anc ∧
    indexed.flags.d = false ∧ ({ indexed with flags := nvdizc 0b001000 } : State).flags.d = true := by decide

theorem witness_JumpResults : (Instr.jmpAbs 0x1234).mnemonic = .jmp ∧ (Instr.jmpInd 0x10FF).mnemonic = .jmp := by decide

/-- A no-op of each kind; the fetch of an immediate one at the end of RAM0, and one fetched from the PIA. -/
theorem witness_NoOpResults : (Instr.nop).mnemonic = .nop ∧ (Instr.nop02).mnemonic = .nop ∧ (Instr.nop80 0xFF).mnemonic = .nop ∧
    (Instr.nop0C 0xD010).mnemonic = .nop ∧ (Instr.nop93 0xFF).mnemonic = .nop ∧
    (let s : State := { at0200 [] [(0x0FFF, 0xE2)] with pc := 0x0FFF };
      (s.memRead s.pc).1 = 0xE2 ∧ (rowOf (s.memRead s.pc).1).mnemonic = .nop ∧ s.fetch.2.pc = 0x1001) ∧
    (let s : State := { at0200 [] [] with pc := 0xD010, pia := ⟨⟨0xEA, 0, 0x84, false, false, false, false⟩, Port.cleared, false, false⟩ };
      (s.memRead s.pc).1 = 0xEA ∧ s.fetch.2.pc = 0xD011 ∧ s.fetch.2.pia.portA.control = 0x04) := by decide

/-- Every addressing mode, the encodings at the ends of their ranges. -/
theorem witness_EffectiveAddresses : (Instr.ldaImm 0x80).mode = .imm ∧
    ((Instr.ldaZp 0xFF).mode = .zp ∧ encode (.ldaZp 0xFF) = [0xA5, 0xFF]) ∧
    ((Instr.ldaZpx 0xFF).mode = .zpx ∧ encode (.ldaZpx 0xFF) = [0xB5, 0xFF]) ∧
    ((Instr.ldxZpy 0xFF).mode = .zpy ∧ encode (.ldxZpy 0xFF) = [0xB6, 0xFF]) ∧
    ((Instr.ldaIzx 0xFE).mode = .izx ∧ encode (.ldaIzx 0xFE) = [0xA1, 0xFE]) ∧
    ((Instr.ldaIzy 0xFF).mode = .izy ∧ encode (.ldaIzy 0xFF) = [0xB1, 0xFF]) ∧
    ((Instr.bne 0x80).mode = .rel ∧ encode (.bne 0x80) = [0xD0, 0x80]) ∧
    ((Instr.ldaAbs 0xFFFF).mode = .abs ∧ encode (.ldaAbs 0xFFFF) = [0xAD, 0xFF, 0xFF]) ∧
    ((Instr.ldaAbx 0xFFFF).mode = .abx ∧ encode (.ldaAbx 0xFFFF) = [0xBD, 0xFF, 0xFF]) ∧
    ((Instr.ldaAby 0xFFFF).mode = .aby ∧ encode (.ldaAby 0xFFFF) = [0xB9, 0xFF, 0xFF]) ∧
    ((Instr.jmpInd 0x10FF).mode = .ind ∧ encode (.jmpInd 0x10FF) = [0x6C, 0xFF, 0x10]) := by decide

/-- A store, a push that wraps, an instruction that stores nothing, a ROM byte, a store next to the PIA. -/
theorem witness_StoredBytesFrame : onNext (exec (.staAbs 0x0FFF) indexed) (fun _ => true) = true ∧
    storedAddresses (.staAbs 0x0FFF) indexed = [0x0FFF] ∧ isPia 0x0FFF = false ∧
    onNext (exec (.jsr 0x1234) { indexed with sp := 0x00 }) (fun _ => true) = true ∧
    storedAddresses (.jsr 0x1234) { indexed with sp := 0x00 } = [0x0100, 0x01FF] ∧
    onNext (exec (.cmpImm 0x10) indexed) (fun _ => true) = true ∧ storedAddresses (.cmpImm 0x10) indexed = [] ∧
    storedAddresses (.aslAcc) indexed = [] ∧ isRom 0xFF00 = true ∧ isRom 0xFFFF = true ∧ isPia 0xD00F = false ∧
    isPia 0xD014 = false := by decide

theorem witness_RegisterFrame : onNext (exec (.stxZp 0x10) indexed) (fun _ => true) = true ∧ Mnemonic.stx ∉ writersOfA ∧
    (Instr.stxZp 0x10).mode ≠ .acc ∧ Mnemonic.stx ∉ writersOfX ∧ Mnemonic.stx ∉ writersOfY ∧ Mnemonic.stx ∉ writersOfS := by decide

theorem witness_FlagFrame : onNext (exec (.jsr 0x1234) indexed) (fun _ => true) = true ∧ Mnemonic.jsr ∉ writersOfNZ ∧
    Mnemonic.jsr ∉ writersOfC ∧ Mnemonic.jsr ∉ writersOfV ∧ Mnemonic.jsr ∉ writersOfD ∧ Mnemonic.jsr ∉ writersOfI ∧
    (Instr.jsr 0x1234).mnemonic = .jsr ∧ (Instr.bne 0x10).mode = .rel := by decide

theorem witness_OtherStateFrame : onNext (exec (.iscIzx 0x10) indexed) (fun _ => true) = true ∧
    [Mnemonic.jmp, .jsr, .rts, .rti, .brk].contains (Instr.iscIzx 0x10).mnemonic = false ∧ (Instr.iscIzx 0x10).mode ≠ .rel := by decide

/-- In a quantum with an IRQ masked, at the start of one with an empty agenda, and at the start of one on the agenda; an interrupt entry;
the wiring with each PIA output raised, and of a CPU standing alone. -/
theorem witness_StepRunsDecodedInstruction :
    (let s : State := { at0200 [0xAD, 0x10, 0xD0] [] with
        quantumLeft := 4, flags := nvdizc 0b000100, wiring := ⟨true, false, false⟩, pia := piaOf 0x87 0x00 };
      s.stopped = false ∧ s.inQuantum s ∧ s.wireInputs.hook.allows s.wireInputs.pc = true ∧
      s.wireInputs.inputs.nmiPending = false ∧ s.wireInputs.inputs.irqLine = true ∧ s.wireInputs.flags.i = true ∧
      decode s.wireInputs.fetch.1 = .ok (.ldaAbs 0xD010, []) ∧ (Instr.ldaAbs 0xD010).wellFormed = true) ∧
    (let s := at0200 [0xA9, 0x80] [];
      let q : State := { s with quantumLeft := quantumLength 1 s.clock };
      s.stopped = false ∧ s.inQuantum q ∧ q.wireInputs.hook.allows q.wireInputs.pc = true ∧
      q.wireInputs.inputs.nmiPending = false ∧ q.wireInputs.inputs.irqLine = false ∧
      decode q.wireInputs.fetch.1 = .ok (.ldaImm 0x80, []) ∧ (Instr.ldaImm 0x80).wellFormed = true) ∧
    (let s : State := { at0200 [] [] with agenda := [.quantum 3, .host .pause] };
      s.stopped = false ∧ s.inQuantum { s with agenda := [.host .pause], quantumLeft := quantumLength 3 s.clock }) ∧
    (let s : State := { withVectors [0xEA] with quantumLeft := 1, wiring := ⟨true, false, false⟩, pia := piaOf 0x00 0x81 };
      s.stopped = false ∧ s.inQuantum s ∧ onStep .irq s.wireInputs (fun u => u.pc == 0x0300) = true ∧
      s.wiring.cpuAlone = false ∧ s.wiring.piaIrqWired = true ∧ s.pia.portB.irq = true ∧ s.wireInputs.inputs = ⟨true, false, false⟩) ∧
    (let s : State := { at0200 [] [] with inputs := ⟨true, true, true⟩, pia := piaOf 0x81 0x00 };
      s.wiring.cpuAlone = false ∧ s.wiring.piaIrqWired = false ∧ s.pia.portA.irq = true ∧ s.wireInputs.inputs = ⟨false, false, true⟩) ∧
    (let s : State := { at0200 [] [] with inputs := ⟨true, true, true⟩, wiring := ⟨false, false, true⟩ };
      s.wiring.cpuAlone = true ∧ s.wireInputs.inputs = ⟨true, true, true⟩) :=
  ⟨⟨by decide, .inl ⟨by decide, rfl⟩, by decide, by decide, by decide, by decide, rfl, by decide⟩,
    ⟨by decide, .inr (.inl ⟨rfl, rfl, rfl⟩), by decide, by decide, by decide, rfl, by decide⟩,
    ⟨by decide, .inr (.inr ⟨rfl, 3, [.host .pause], rfl, rfl⟩)⟩,
    ⟨by decide, .inl ⟨by decide, rfl⟩, by decide, by decide, by decide, by decide, by decide⟩, by decide, by decide⟩

/-- `LDA abs` at the end of RAM0, RAM1 and of the address space, across the start of the ROM, and `LDA #` fetched from the PIA, whose
operand is `CRA` as the opcode's read left it. -/
theorem test_fetch_edges :
    ({ at0200 [] [(0x0FFE, 0xAD), (0x0FFF, 0x34)] with pc := 0x0FFE } : State).fetch.1 = [0xAD, 0x34, 0x00] ∧
    ({ at0200 [] [(0xEFFE, 0xAD), (0xEFFF, 0x34)] with pc := 0xEFFE } : State).fetch.1 = [0xAD, 0x34, 0x00] ∧
    ({ at0200 [] [(0xFFFE, 0xAD), (0xFFFF, 0x34), (0x0000, 0x12)] with pc := 0xFFFE } : State).fetch.1 = [0xAD, 0x34, 0x12] ∧
    ({ at0200 [] [(0xFF00, 0xAD)] with pc := 0xFEFF } : State).fetch.1 = [0x00] ∧
    (let r := ({ at0200 [] [] with
        pc := 0xD010, pia := ⟨⟨0xA9, 0, 0x84, false, false, false, false⟩, Port.cleared, false, false⟩ } : State).fetch;
      r.1 = [0xA9, 0x04] ∧ r.2.pc = 0xD012 ∧ r.2.pia.portA.control = 0x04) := by decide

/-- The end of RAM0, an address between the RAMs, the top of the address space, and an immediate no-op. -/
theorem witness_FetchReadsTheBytesAtPc :
    isStored 0x0FFD = true ∧ isStored 0x0FFE = true ∧ isStored 0x0FFF = true ∧
    isStored (0xFFFE : Addr).toNat = true ∧ isStored ((0xFFFE : Addr) + 1).toNat = true ∧ isStored ((0xFFFE : Addr) + 2).toNat = true ∧
    isStored 0x1000 = false ∧ isPia 0x1000 = false ∧ isStored 0xD00F = false ∧ isPia 0xD00F = false ∧
    (rowOf ((at0200 [0x80, 0xFF] []).memRead 0x0200).1).mnemonic = .nop ∧
    (rowOf ((at0200 [0x80, 0xFF] []).memRead 0x0200).1).mode = .imm := by decide

/-- A running machine in a quantum, with memory, an unread notification and a wired IRQ. -/
def running : State := { at0200 [0x8D, 0x12, 0xD0] [(0xE000, 0x77), (0xFFFF, 0x03)] with
  quantumLeft := 4, wiring := ⟨true, false, false⟩, inputs := ⟨true, false, false⟩, flags := nvdizc 0b000100,
  pia := { piaOf 0x87 0x04 with notifyPending := true } }

theorem running_inv : Inv running := by constructor <;> decide

theorem witness_StepKeepsInv : Inv running ∧ ∃ t, step running = .next t :=
  ⟨running_inv, (exists_of_onNext (test := fun _ => true) (by decide)).imp fun _ h => h.1⟩

/-- A host write to the first and the last byte of the ROM. -/
theorem witness_RomNeverChanges : isRom 0xFF00 = true ∧ isRom 0xFFFF = true ∧
    onNext (step { withVectors [] with agenda := [.host (.hostWrite 0xFFFF 0x99)] }) (fun t => t.mem.read 0xFFFF == 0x03) = true := by
  decide

theorem witness_CyclesNeverDecrease : (running.quantumLeft = 0 → ∀ (snap : Snapshot) (now : Rat) (rest : List Turn),
      running.agenda ≠ .host (.loadState snap now) :: rest) ∧
    onNext (step running) (fun t => t.cycles == 4) = true := ⟨fun h => absurd h (by decide), by decide⟩

/-- The four clauses of a step, which exclude each other: halted, NMI (with an IRQ waiting), IRQ, an instruction with the IRQ masked; a
hook and a line turn as the next turn. -/
theorem witness_CpuStepOrder :
    (Hook.breakpoint [0x0200]).allows 0x0200 = false ∧
    (Hook.absent.allows 0x0200 = true ∧ ({ withVectors [0xEA] with inputs := ⟨true, true, true⟩ } : State).inputs.nmiPending = true) ∧
    (let s : State := { withVectors [0xEA] with inputs := ⟨true, false, false⟩ };
      s.hook.allows s.pc = true ∧ s.inputs.nmiPending = false ∧ s.inputs.irqLine = true ∧ s.flags.i = false) ∧
    (let s : State := { withVectors [0xEA] with inputs := ⟨true, false, false⟩, flags := nvdizc 0b000100 };
      s.hook.allows s.pc = true ∧ s.inputs.nmiPending = false ∧ s.flags.i = true) ∧
    (let s : State := { at0200 [] [] with agenda := [.host (.setHook (.runTo 0x0203 [0x0201]))] };
      s.quantumLeft = 0 ∧ s.agenda = .host (.setHook (.runTo 0x0203 [0x0201])) :: [] ∧
      onNext (step s) (fun t => !t.hook.allows 0x0203 && !t.hook.allows 0x0201 && t.hook.allows 0x0202) = true) ∧
    (let s : State := { at0200 [] [] with agenda := [.setNmiLine true], wiring := ⟨false, false, true⟩ };
      s.quantumLeft = 0 ∧ s.agenda = .setNmiLine true :: [] ∧ onNext (step s) (fun t => t.inputs == ⟨false, true, true⟩) = true) ∧
    (let s : State := { at0200 [] [] with agenda := [.setIrqLine true] };
      s.quantumLeft = 0 ∧ s.agenda = .setIrqLine true :: [] ∧ onNext (step s) (fun t => t.inputs == ⟨false, false, false⟩) = true) := by
  decide

/-- Each vector; and `S` at 0x01, where the third push wraps. -/
theorem witness_InterruptEntry : nmiVector = 0xFFFA ∧ resetVector = 0xFFFC ∧ irqVector = 0xFFFE ∧
    (({ withVectors [] with sp := 0x01 } : State).interrupt irqVector true).mem.read 0x01FF = 0x30 ∧
    0x0200 ≠ 256 + (0x01 : Byte).toNat := by decide

theorem witness_RtiUndoesInterrupt : (((withVectors []).interrupt nmiVector false).returnFromInterrupt).pc = 0x0200 ∧
    (((withVectors []).interrupt irqVector true).returnFromInterrupt).sp = 0xFF := by decide

/-- With the stack wrapping between the two pushes. -/
theorem witness_RtsUndoesJsr : ∃ t, exec (.jsr 0x0300) { indexed with sp := 0x00 } = .next t ∧
    onNext (exec .rts t) (fun u => u.sp == 0x00) = true :=
  exists_of_onNext (test := fun t => onNext (exec .rts t) fun u => u.sp == 0x00) (by decide)

/-- Stopped between quanta and inside one; a hook that halts inside a quantum and at the first step of one. -/
theorem witness_QuantumRules :
    (State.reset.stopped = true ∧ State.reset.quantumLeft = 0 ∧ State.reset.agenda = []) ∧
    (let s : State := { State.reset with agenda := [.quantum 3] }; s.stopped = true ∧ s.agenda = .quantum 3 :: []) ∧
    (let s : State := { running with faulted := true }; s.stopped = true ∧ s.quantumLeft ≠ 0) ∧
    (let s : State := { running with hook := .breakpoint [0x0200] };
      s.stopped = false ∧ s.inQuantum s ∧ s.hook.allows s.pc = false) ∧
    (let s : State := { running with hook := .breakpoint [0x0200], quantumLeft := 0 };
      s.stopped = false ∧ s.inQuantum { s with quantumLeft := quantumLength 1 s.clock } ∧ s.hook.allows s.pc = false) ∧
    (running.clock.cycleAccurate = false ∧ 0 < running.clock.chunk) ∧
    (let c : Clock := { running.clock with cycleAccurate := true }; c.cycleAccurate = true ∧ 1 ≤ c.chunk ∧ c.chunk ≤ c.chunk) :=
  ⟨by decide, by decide, by decide, ⟨by decide, .inl ⟨by decide, rfl⟩, by decide⟩,
    ⟨by decide, .inr (.inl ⟨rfl, rfl, rfl⟩), by decide⟩, by decide, by decide⟩

/-- Inside a quantum, and at the one step of a quantum of a machine whose chunk is 1. -/
theorem witness_ProgramCannotStopTheMachine :
    (running.stopped = false ∧ running.inQuantum running ∧ running.hook.allows running.pc = true ∧
      onNext (step running) (fun t => t.output == [.sinkWrite .b 0x00]) = true) ∧
    (let s : State := { at0200 [0xEA] [] with clock := ⟨1, 1, false, 0, false, none, none⟩ };
      s.stopped = false ∧ s.inQuantum { s with quantumLeft := quantumLength 1 s.clock } ∧ s.hook.allows s.pc = true ∧
      onNext (step s) (fun t => t.cycles == 2 && t.quantumLeft == 0) = true) :=
  ⟨⟨by decide, .inl ⟨by decide, rfl⟩, by decide, by decide⟩, ⟨by decide, .inr (.inl ⟨rfl, rfl, rfl⟩), by decide, by decide⟩⟩

theorem witness_HistoriesOnlyGrow : ∃ t, step running = .next t ∧ (t.output == [.sinkWrite .b 0x00]) = true :=
  exists_of_onNext (test := fun t => t.output == [.sinkWrite .b 0x00]) (by decide)

/-- A read that clears flag 7, a write to a control register with flag 7 set, and a read of port B. -/
theorem witness_CpuCannotRaisePiaFlags :
    onNext (exec (.ldaAbs 0xD010) running) (fun t => t.pia.portA.control == 0x07) = true ∧
    onNext (exec (.staAbs 0xD011) running) (fun t => t.pia.portA.control == 0x80) = true ∧
    onNext (exec (.ldaAbs 0xD012) { running with pia := piaOf 0x00 0xC4 }) (fun t => t.pia.portB.control == 0x44) = true := by decide

theorem witness_ResetResults : (let s : State := { withVectors [] with agenda := [.host .reset] }
    s.quantumLeft = 0 ∧ s.agenda = .host .reset :: []) := by decide

/-- Refused and accepted parameters, and the first and last byte of each image. -/
theorem witness_ConstructedMachine : (params 255 4096 4096 1 1).valid = false ∧ (params 256 4096 4096 1 1).valid = true ∧
    (params 256 4096 4096 1 1).romImage[0]? = some 0 ∧ (params 256 4096 4096 1 1).romImage[255]? = some 0 ∧
    (params 256 4096 4096 1 1).ram0Init[4095]? = some 0 ∧ (params 256 4096 4096 1 1).ram1Init[4095]? = some 0 :=
  ⟨test_params_short_rom_refused, test_params_accepted, List.getElem?_replicate_of_lt (by decide),
    List.getElem?_replicate_of_lt (by decide), List.getElem?_replicate_of_lt (by decide), List.getElem?_replicate_of_lt (by decide)⟩

/-- Adjacent ranges meet the first clause, ranges that share one byte the second, and a one-byte range holds its address. -/
theorem witness_BusConstruction : busConstruct [⟨0x0000, 0x0FFF, .ram0⟩, ⟨0x1000, 0xFFFF, .ram1⟩] =
      .ok [⟨0x0000, 0x0FFF, .ram0⟩, ⟨0x1000, 0xFFFF, .ram1⟩] ∧
    busConstruct [⟨0x0000, 0x0FFF, .ram0⟩, ⟨0x0FFF, 0xFFFF, .ram1⟩] = .error .configError ∧
    (⟨0x0FFF, 0x0FFF, .ram0⟩ : BusEntry).start ≤ 0x0FFF ∧ 0x0FFF ≤ (⟨0x0FFF, 0x0FFF, .ram0⟩ : BusEntry).stop := by decide

/-- The first and last address of each region, and the unmapped addresses beside them. -/
theorem witness_MemoryMap : isRam 0x0000 = true ∧ isRam 0x0FFF = true ∧ isRam 0x1000 = false ∧ isRam 0xDFFF = false ∧
    isRam 0xE000 = true ∧ isRam 0xEFFF = true ∧ isRam 0xF000 = false ∧ isRom 0xFEFF = false ∧ isRom 0xFF00 = true ∧
    isRom 0xFFFF = true ∧ ((running.memRead 0x1000).1 = 0x00 ∧ (running.memRead 0xF000).1 = 0x00) ∧
    (running.memRead 0xD010).2.pia.portA.control = 0x07 ∧ (running.memRead 0xD013).1 = 0x04 ∧
    (running.memWrite 0xE000 0x12).mem.read 0xE000 = 0x12 ∧ (running.memWrite 0xFFFF 0x12).mem = running.mem ∧
    (running.memWrite 0xD011 0xFF).pia.portA.control = 0xBF ∧ (0xD010 : Addr).toNat = 0xD010 + 0 ∧
    (0xD013 : Addr).toNat = 0xD010 + 3 := by decide

/-- An edge of C1 and of C2, one of an output-mode C2, and both bits of a port-A input. -/
theorem witness_DeviceActions : (let p := (piaOf 0x06 0x00).portA; p.c1 ≠ true ∧ p.control.getLsbD 1 = true) ∧
    (let p := (piaOf 0x1C 0x00).portA; p.c2 ≠ true ∧ p.control.getLsbD 5 = false ∧ p.control.getLsbD 4 = true) ∧
    (piaOf 0x3C 0x00).portA.control.getLsbD 5 = true ∧ 0 < 8 ∧ 7 < 8 ∧
    (⟨0, 0, 0x81, false, false, false, false⟩ : Port).irq = true ∧ (⟨0, 0, 0x48, false, false, false, false⟩ : Port).irq = true := by
  decide

/-- Every kind of device action as the next turn; all but a sink's failure tell one update, and the failure is logged. -/
theorem witness_DeviceTurns : (∀ act ∈ [DeviceAction.setCA1 true, .setCA2 true, .setCB1 true, .setCB2 true, .setPB7Override true,
      .portAInput 0x5C],
    onNext (step { at0200 [] [] with agenda := [.device act] }) (fun t => t.agenda == [] && t.hostEvents == [.deviceUpdate t.pia]) =
      true) ∧
    onNext (step { at0200 [] [] with agenda := [.device (.sinkFailed .b)] }) (fun t => t.hostEvents == [.log (.sinkFailed .b)]) =
      true := by decide

theorem witness_ClockCommands : (let s : State := { at0200 [] [] with agenda := [.host .pause] };
      s.quantumLeft = 0 ∧ s.agenda = .host .pause :: []) ∧
    (let s : State := { at0200 [] [] with agenda := [.host (.resume 5)] };
      s.quantumLeft = 0 ∧ s.faulted = false ∧ s.agenda = .host (.resume 5) :: []) ∧
    (let s : State := { at0200 [] [] with agenda := [.host (.resume 5)], faulted := true };
      s.quantumLeft = 0 ∧ s.faulted = true ∧ s.agenda = .host (.resume 5) :: []) ∧
    (let s : State := { at0200 [] [] with agenda := [.host (.setCycleAccurate true), .measure 1] };
      s.quantumLeft = 0 ∧ s.agenda = .host (.setCycleAccurate true) :: [.measure 1]) ∧
    (let s : State := { at0200 [] [] with agenda := [.measure (-1)] };
      s.quantumLeft = 0 ∧ s.agenda = .measure (-1) :: []) := by decide

theorem witness_StepOneRunsOneStep : ({ running with faulted := true } : State).faulted = true ∧ running.faulted = false ∧
    onNext (stepOne { running with hook := .breakpoint [0x0203] }) (fun t => t.hostEvents.length == 2) = true ∧
    (let s : State := { running with quantumLeft := 0, agenda := [.host .stepOne] };
      s.quantumLeft = 0 ∧ s.agenda = .host .stepOne :: [] ∧ onNext (stepOne { s with agenda := [] }) (fun _ => true) = true) := by
  decide

/-- A memory in canonical form, its snapshot, both parts of the address space, a run-to hook, two refused snapshots, and both turns. -/
theorem witness_SnapshotRoundTrip : running.mem.wf = true ∧ running.snapshot.wellFormed = true ∧ isRam 0xEFFF = true ∧
    isRom 0xFF00 = true ∧ ({ running with hook := .runTo 0x0200 [0x0300] } : State).hook = .runTo 0x0200 [0x0300] ∧
    (snapOf [(0xFF00, 1)]).wellFormed = false ∧
    (let s : State := { at0200 [] [] with agenda := [.host .saveState] };
      s.quantumLeft = 0 ∧ s.agenda = .host .saveState :: []) ∧
    (let s : State := { at0200 [] [] with agenda := [.host (.loadState (snapOf []) 5)] };
      s.quantumLeft = 0 ∧ s.agenda = .host (.loadState (snapOf []) 5) :: []) := by decide

/-- The ends of both ranges, the values just outside, both settings of the parameter, and both turns. -/
theorem witness_HostReadAndWrite : ((0 : Int) ≤ 0xFFFF ∧ (0xFFFF : Int) ≤ 0xFFFF ∧ (0 : Int) ≤ 0xFF ∧ (0xFF : Int) ≤ 0xFF) ∧
    ¬ ((0 : Int) ≤ 0x10000 ∧ (0x10000 : Int) ≤ 0xFFFF) ∧ ¬ ((0 : Int) ≤ -1) ∧ running.wiring.hostReadSideEffects = false ∧
    ({ running with wiring := ⟨true, true, false⟩ } : State).wiring.hostReadSideEffects = true ∧
    (let s : State := { at0200 [] [] with agenda := [.host (.hostRead 0xD010 1), .host (.hostWrite 0x10000 1)] };
      s.quantumLeft = 0 ∧ s.agenda = .host (.hostRead 0xD010 1) :: [.host (.hostWrite 0x10000 1)]) ∧
    (let s : State := { at0200 [] [] with agenda := [.host (.hostWrite 0x10000 1)] };
      s.quantumLeft = 0 ∧ s.agenda = .host (.hostWrite 0x10000 1) :: []) := by decide

end Sys2Proof.Tests
end

section
/-! SUPPORT. The fields an instruction leaves alone, as one projection of the state, and what each operation does to it: nothing,
or, in a control transfer, a new `PC`. That every instruction answers a next state is said in the same place. -/

namespace Sys2Proof.Machine

/-- The fields no CPU step touches: what belongs to the host, the Scheduler and the model itself. -/
structure HostSide where
  hook : Hook
  clock : Clock
  faulted : Bool
  hostEvents : List HostEvent
  wiring : Wiring
  agenda : List Turn
  quantumLeft : Nat
  freeCount : Nat

/-- The fields no instruction touches, but for `PC`, which only a control transfer moves. -/
structure Surroundings extends HostSide where
  pc : Addr
  opcode : Byte
  inputs : Inputs

def State.hostSide (s : State) : HostSide :=
  ⟨s.hook, s.clock, s.faulted, s.hostEvents, s.wiring, s.agenda, s.quantumLeft, s.freeCount⟩

def State.surroundings (s : State) : Surroundings := ⟨s.hostSide, s.pc, s.opcode, s.inputs⟩

/-- `t` has the surroundings of `s`, but for `PC`. -/
def Steers (s t : State) : Prop := t.surroundings = { s.surroundings with pc := t.pc }

theorem Steers.of_eq {s u : State} (h : u.surroundings = s.surroundings) (pc : Addr) : Steers s { u with pc := pc } := by
  rw [Steers, ← h]
  rfl

theorem Steers.charge {s u : State} (h : Steers s u) (n : Nat) : Steers s (u.charge n) := h

theorem Steers.hostSide {s t : State} (h : Steers s t) : t.hostSide = s.hostSide := congrArg Surroundings.toHostSide h

/-! ### The surroundings after each operation over the Bus -/

theorem memRead_surroundings (s : State) (a : Addr) : (s.memRead a).2.surroundings = s.surroundings := by
  rw [memRead_frame]
  rfl

theorem memWrite_surroundings (s : State) (a : Addr) (v : Byte) : (s.memWrite a v).surroundings = s.surroundings := by
  rw [memWrite_frame]
  rfl

theorem read16_surroundings (s : State) (a : Addr) : (s.read16 a).2.surroundings = s.surroundings :=
  (memRead_surroundings _ _).trans (memRead_surroundings s a)

theorem readPointer_surroundings (s : State) (a : Addr) : (s.readPointer a).2.surroundings = s.surroundings :=
  (memRead_surroundings _ _).trans (memRead_surroundings s a)

theorem push_surroundings (s : State) (v : Byte) : (s.push v).surroundings = s.surroundings :=
  memWrite_surroundings s _ v

theorem pull_surroundings (s : State) : s.pull.2.surroundings = s.surroundings := memRead_surroundings _ _

theorem setFlags_surroundings (s : State) (f : Flags) : ({ s with flags := f } : State).surroundings = s.surroundings := rfl

theorem interrupt_steers (s : State) (vector : Addr) (b : Bool) : Steers s (s.interrupt vector b) := by
  unfold State.interrupt
  exact .of_eq (by rw [read16_surroundings, setFlags_surroundings, push_surroundings, push_surroundings, push_surroundings]) _

theorem returnFromInterrupt_steers (s : State) : Steers s s.returnFromInterrupt := by
  unfold State.returnFromInterrupt
  exact .of_eq (by rw [pull_surroundings, pull_surroundings, setFlags_surroundings, pull_surroundings]) _

/-! ### The shapes of an instruction -/

/-- The meaning answers a next state and leaves the surroundings as they were. -/
def Steady (s : State) (r : Result) : Prop := ∃ t : State, r = .next t ∧ t.surroundings = s.surroundings

/-- The meaning answers a next state and moves `PC` at most. -/
def Steered (s : State) (r : Result) : Prop := ∃ t : State, r = .next t ∧ Steers s t

/-- An operation on registers and flags leaves the surroundings as they were. -/
def KeepsSurroundings (f : State → Byte → State) : Prop := ∀ (s : State) (m : Byte), (f s m).surroundings = s.surroundings

theorem Steady.steered {s : State} {r : Result} (h : Steady s r) : Steered s r := by
  obtain ⟨t, hr, ht⟩ := h
  exact ⟨t, hr, .of_eq ht t.pc⟩

section
variable {s : State}

theorem steady_impliedOp {base : Nat} {u : State} (h : u.surroundings = s.surroundings) : Steady s (impliedOp base u) :=
  ⟨_, impliedOp_eq base u, h⟩

theorem steady_accOp {base : Nat} {modify : Byte → Flags → Byte × Flags} : Steady s (accOp base s modify) :=
  ⟨_, accOp_eq base s modify, rfl⟩

theorem steady_immOp {base : Nat} {d8 : Byte} {f : State → Byte → State} (hf : KeepsSurroundings f) :
    Steady s (immOp base d8 s f) :=
  ⟨_, immOp_eq base d8 s f, hf s d8⟩

theorem steady_readOp {base : Nat} {penalty : Bool} {e : Ea} {f : State → Byte → State} (hf : KeepsSurroundings f)
    (he : e.state.surroundings = s.surroundings) : Steady s (readOp base penalty e f) :=
  ⟨_, readOp_eq base penalty e f, (hf _ _).trans <| (memRead_surroundings _ _).trans he⟩

theorem steady_writeOp {base : Nat} {e : Ea} {v : Byte} (he : e.state.surroundings = s.surroundings) :
    Steady s (writeOp base e v) :=
  ⟨_, writeOp_eq base e v, (memWrite_surroundings _ _ _).trans he⟩

theorem steady_rmwOp {base : Nat} {e : Ea} {modify : Byte → Flags → Byte × Flags} {after : State → Byte → State}
    (hf : KeepsSurroundings after) (he : e.state.surroundings = s.surroundings) : Steady s (rmwOp base e modify after) :=
  ⟨_, rmwOp_eq base e modify after,
    (hf _ _).trans <| (memWrite_surroundings _ _ _).trans <| (memRead_surroundings _ _).trans he⟩

theorem steady_skipOp {base : Nat} {penalty : Bool} {e : Ea} (he : e.state.surroundings = s.surroundings) :
    Steady s (skipOp base penalty e) :=
  ⟨_, skipOp_eq base penalty e, he⟩

theorem steered_branchOp {cond : Bool} {d8 : Byte} : Steered s (branchOp cond d8 s) :=
  ⟨_, branchOp_eq cond d8 s, by cases cond <;> rfl⟩

theorem steered_jumpOp {base : Nat} {e : Ea} (he : e.state.surroundings = s.surroundings) : Steered s (jumpOp base e) :=
  ⟨_, rfl, (Steers.of_eq he e.addr).charge base⟩

end

/-! ### Every instruction -/

/-- The control transfers: jumps, subroutines, BRK and RTI, and the branches. -/
def transfersControl (i : Instr) : Bool :=
  [Mnemonic.jmp, .jsr, .rts, .rti, .brk].contains i.mnemonic || i.mode == .rel

/-- Every instruction answers a next state and leaves the surroundings alone; only a control transfer moves `PC`. -/
theorem exec_steady_or_steered (i : Instr) (s : State) :
    Steady s (exec i s) ∨ transfersControl i = true ∧ Steered s (exec i s) := by
  cases i
  case bpl _ | bmi _ | bvc _ | bvs _ | bcc _ | bcs _ | bne _ | beq _ =>
    exact .inr ⟨by simp [transfersControl, Instr.mode], steered_branchOp⟩
  case jmpAbs _ =>
    exact .inr ⟨by simp [transfersControl, Instr.mnemonic], steered_jumpOp (by rfl)⟩
  case jmpInd _ =>
    exact .inr ⟨by simp [transfersControl, Instr.mnemonic], steered_jumpOp (by exact readPointer_surroundings s _)⟩
  case jsr a16 =>
    exact .inr ⟨by simp [transfersControl, Instr.mnemonic], _, rfl,
      .of_eq ((push_surroundings _ _).trans (push_surroundings s _)) a16⟩
  case rts =>
    exact .inr ⟨by simp [transfersControl, Instr.mnemonic], _, rfl,
      .of_eq ((pull_surroundings _).trans (pull_surroundings s)) _⟩
  case rti =>
    exact .inr ⟨by simp [transfersControl, Instr.mnemonic], _, rfl, (returnFromInterrupt_steers s).charge 6⟩
  case brk =>
    exact .inr ⟨by simp [transfersControl, Instr.mnemonic], _, rfl, (interrupt_steers _ irqVector true).charge 7⟩
  all_goals left
  case aslAcc | rolAcc | lsrAcc | rorAcc =>
    exact steady_accOp
  case oraImm _ | anc0B _ | andImm _ | anc2B _ | eorImm _ | alr _ | adcImm _ | arr _ | ldyImm _ | ldxImm _ | ldaImm _ |
      cpyImm _ | cmpImm _ | sbx _ | cpxImm _ | sbcImm _ | usbc _ =>
    exact steady_immOp (by exact fun _ _ => rfl)
  case clc | sec | cli | sei | clv | cld | sed | dey | dex | iny | inx | txa | tya | txs | tay | tax | tsx | nop | nop02 |
      nop12 | nop1A | nop22 | nop32 | nop3A | nop42 | nop52 | nop5A | nop62 | nop72 | nop7A | nop92 | nopB2 | nopD2 | nopDA |
      nopF2 | nopFA | nop80 _ | nop82 _ | nop89 _ | nop8B _ | nopAB _ | nopC2 _ | nopE2 _ =>
    exact steady_impliedOp (by rfl)
  case php | pha =>
    exact steady_impliedOp (by exact push_surroundings s _)
  case pla | plp =>
    exact ⟨_, rfl, pull_surroundings s⟩
  case ldaZp _ | ldaZpx _ | ldaAbs _ | ldaAbx _ | ldaAby _ | ldxZp _ | ldxZpy _ | ldxAbs _ | ldxAby _ | ldyZp _ | ldyZpx _ |
      ldyAbs _ | ldyAbx _ | laxZp _ | laxZpy _ | laxAbs _ | laxAby _ | las _ | adcZp _ | adcZpx _ | adcAbs _ | adcAbx _ |
      adcAby _ | sbcZp _ | sbcZpx _ | sbcAbs _ | sbcAbx _ | sbcAby _ | andZp _ | andZpx _ | andAbs _ | andAbx _ | andAby _ |
      oraZp _ | oraZpx _ | oraAbs _ | oraAbx _ | oraAby _ | eorZp _ | eorZpx _ | eorAbs _ | eorAbx _ | eorAby _ | cmpZp _ |
      cmpZpx _ | cmpAbs _ | cmpAbx _ | cmpAby _ | cpxZp _ | cpxAbs _ | cpyZp _ | cpyAbs _ | bitZp _ | bitAbs _ =>
    exact steady_readOp (by exact fun _ _ => rfl) (by rfl)
  case ldaIzx _ | ldaIzy _ | laxIzx _ | laxIzy _ | adcIzx _ | adcIzy _ | sbcIzx _ | sbcIzy _ | andIzx _ | andIzy _ | oraIzx _ |
      oraIzy _ | eorIzx _ | eorIzy _ | cmpIzx _ | cmpIzy _ =>
    exact steady_readOp (by exact fun _ _ => rfl) (by exact readPointer_surroundings s _)
  case staZp _ | staZpx _ | staAbs _ | staAbx _ | staAby _ | stxZp _ | stxZpy _ | stxAbs _ | styZp _ | styZpx _ | styAbs _ |
      saxZp _ | saxZpy _ | saxAbs _ =>
    exact steady_writeOp (by rfl)
  case staIzx _ | staIzy _ | saxIzx _ =>
    exact steady_writeOp (by exact readPointer_surroundings s _)
  case aslZp _ | aslZpx _ | aslAbs _ | aslAbx _ | lsrZp _ | lsrZpx _ | lsrAbs _ | lsrAbx _ | rolZp _ | rolZpx _ | rolAbs _ |
      rolAbx _ | rorZp _ | rorZpx _ | rorAbs _ | rorAbx _ | incZp _ | incZpx _ | incAbs _ | incAbx _ | decZp _ | decZpx _ |
      decAbs _ | decAbx _ | sloZp _ | sloZpx _ | sloAbs _ | sloAbx _ | sloAby _ | rlaZp _ | rlaZpx _ | rlaAbs _ | rlaAbx _ |
      rlaAby _ | sreZp _ | sreZpx _ | sreAbs _ | sreAbx _ | sreAby _ | rraZp _ | rraZpx _ | rraAbs _ | rraAbx _ | rraAby _ |
      dcpZp _ | dcpZpx _ | dcpAbs _ | dcpAbx _ | dcpAby _ | iscZp _ | iscZpx _ | iscAbs _ | iscAbx _ | iscAby _ =>
    exact steady_rmwOp (by exact fun _ _ => rfl) (by rfl)
  case sloIzx _ | sloIzy _ | rlaIzx _ | rlaIzy _ | sreIzx _ | sreIzy _ | rraIzx _ | rraIzy _ | dcpIzx _ | dcpIzy _ | iscIzx _ |
      iscIzy _ =>
    exact steady_rmwOp (by exact fun _ _ => rfl) (by exact readPointer_surroundings s _)
  case nop04 _ | nop0C _ | nop14 _ | nop1C _ | nop34 _ | nop3C _ | nop44 _ | nop54 _ | nop5C _ | nop64 _ | nop74 _ | nop7C _ |
      nop9B _ | nop9C _ | nop9E _ | nop9F _ | nopD4 _ | nopDC _ | nopF4 _ | nopFC _ =>
    exact steady_skipOp (by rfl)
  case nop93 _ =>
    exact steady_skipOp (by exact readPointer_surroundings s _)

theorem exec_steered (i : Instr) (s : State) : Steered s (exec i s) := by
  obtain h | ⟨-, h⟩ := exec_steady_or_steered i s
  · exact h.steered
  · exact h

theorem exec_steers {i : Instr} {s t : State} (h : exec i s = .next t) : Steers s t := by
  obtain ⟨u, hu, hs⟩ := exec_steered i s
  cases h.symm.trans hu
  exact hs

theorem exec_pc {i : Instr} {s t : State} (h : exec i s = .next t) (hi : transfersControl i = false) : t.pc = s.pc := by
  obtain ⟨u, hu, hs⟩ | ⟨ht, -⟩ := exec_steady_or_steered i s
  · cases h.symm.trans hu
    exact congrArg Surroundings.pc hs
  · rw [hi] at ht
    cases ht

/-- Settles O34: every instruction `Steers` the state it runs in, and only a control transfer moves `PC`. -/
theorem otherStateFrame : Obligations.OtherStateFrame := by
  intro i s t h
  have hs := exec_steers h
  simp only [Steers, State.surroundings, State.hostSide, Surroundings.mk.injEq, HostSide.mk.injEq] at hs
  obtain ⟨⟨hook, clock, faulted, events, wiring, agenda, left, free⟩, -, opcode, inputs⟩ := hs
  refine ⟨opcode, inputs, hook, clock, faulted, events, wiring, agenda, left, free, fun hm hr => exec_pc h ?_⟩
  rw [transfersControl, hm, Bool.false_or]
  exact beq_eq_false_iff_ne.mpr hr

end Sys2Proof.Machine
end


section
/-! SUPPORT. Every turn answers a next state, and no CPU step touches the host's side; from these, what a step does to the two
histories, and what a device turn does. -/

namespace Sys2Proof.Machine

theorem wireInputs_hostSide (s : State) : s.wireInputs.hostSide = s.hostSide := by
  rw [wireInputs_eq]
  rfl

theorem fetch_hostSide (s : State) : s.fetch.2.hostSide = s.hostSide := by
  rw [fetch_eq]
  rfl

theorem runInstr_next (s : State) : ∃ t : State, s.runInstr = .next t ∧ t.hostSide = s.hostSide := by
  obtain ⟨i, hi⟩ := decode_fetch s
  obtain ⟨t, ht, hs⟩ := exec_steered i s.fetch.2
  exact ⟨t, by simp only [State.runInstr, hi, ht], hs.hostSide.trans (fetch_hostSide s)⟩

/-- A CPU step always has a result, whatever it takes: the hook, an NMI, an IRQ or an instruction. -/
theorem cpuStep_next (s : State) : ∃ (r : CpuResult) (t : State), cpuStep s = .next (r, t) ∧ t.hostSide = s.hostSide := by
  unfold cpuStep
  split
  · exact ⟨.halted, s, rfl, rfl⟩
  split
  · exact ⟨.nmi, _, rfl, (interrupt_steers _ nmiVector false).hostSide⟩
  split
  · exact ⟨.irq, _, rfl, (interrupt_steers s irqVector false).hostSide⟩
  · obtain ⟨t, ht, hs⟩ := runInstr_next s
    exact ⟨.ok, t, by rw [ht], hs⟩

theorem cpuTurn_exists (s : State) : ∃ (r : CpuResult) (u : State),
    cpuStep s.wireInputs = .next (r, u) ∧ cpuTurn s = .next (u.afterCpuStep r) := by
  obtain ⟨r, u, h, -⟩ := cpuStep_next s.wireInputs
  exact ⟨r, u, h, by simp only [cpuTurn, h]⟩

theorem startQuantum_exists (asked : Nat) (s : State) : ∃ t : State, startQuantum asked s = .next t := by
  unfold startQuantum
  split
  · exact ⟨s, rfl⟩
  · obtain ⟨r, u, -, h⟩ := cpuTurn_exists { s with quantumLeft := quantumLength asked s.clock }
    exact ⟨_, h⟩

theorem continueQuantum_exists (s : State) : ∃ t : State, continueQuantum s = .next t := by
  unfold continueQuantum
  split
  · exact ⟨_, rfl⟩
  · obtain ⟨r, u, -, h⟩ := cpuTurn_exists s
    exact ⟨_, h⟩

/-- `StepOne` of a machine that has not faulted: one CPU step with the hook away, the hook put back, a flush, and an event if the
hook would halt now (60_exceptions.md R382). -/
theorem stepOne_exists (s : State) (h : s.faulted = false) : ∃ (r : CpuResult) (u : State),
    cpuStep ({ s.pause with hook := .absent } : State).wireInputs = .next (r, u) ∧
    stepOne s = .next (let t := ({ u with hook := s.hook } : State).flush
      if t.hook.allows t.pc then t else t.emit (.hookHalted t.pc)) := by
  obtain ⟨r, u, hu, -⟩ := cpuStep_next ({ s.pause with hook := .absent } : State).wireInputs
  refine ⟨r, u, hu, ?_⟩
  rw [stepOne, h, if_neg Bool.false_ne_true, hu]

theorem hostAct_exists (act : HostAction) (s : State) : ∃ t : State, hostAct act s = .next t := by
  cases act
  case stepOne =>
    cases hf : s.faulted
    · obtain ⟨r, u, -, h⟩ := stepOne_exists s hf
      exact ⟨_, h⟩
    · exact ⟨s, by simp [hostAct, stepOne, hf]⟩
  all_goals exact ⟨_, rfl⟩

theorem takeTurn_exists (turn : Turn) (s : State) : ∃ t : State, takeTurn turn s = .next t := by
  cases turn
  case quantum n => exact startQuantum_exists n s
  case host act =>
    obtain ⟨u, hu⟩ := hostAct_exists act s
    exact ⟨u.flush, by simp only [takeTurn, hu, endTurn]⟩
  case device | setIrqLine | setNmiLine | measure => exact ⟨_, rfl⟩

theorem step_exists (s : State) : ∃ t : State, step s = .next t := by
  unfold step advance
  split
  · split
    · exact startQuantum_exists 1 s
    · exact takeTurn_exists _ _
  · exact continueQuantum_exists s

/-- Settles O37: each turn and each instruction has a lemma that names its next state. -/
theorem stepNeverStops : Obligations.StepNeverStops := by
  refine ⟨step_exists, fun i s => ?_⟩
  obtain ⟨t, ht, -⟩ := exec_steered i s
  exact ⟨t, ht⟩

/-! ### Reset -/

/-- The RESET vector lies in ROM, so reading it has no side effect (20_memory.md R72). -/
theorem read16_resetVector (s : State) : s.read16 resetVector = (join (s.mem.read 0xFFFD) (s.mem.read 0xFFFC), s) :=
  read16_stored s resetVector rfl rfl

/-- `CpuReset`, said once (70_reset_and_hazards.md R400). -/
theorem cpuReset_eq (s : State) : s.cpuReset = { s with
    a := 0, x := 0, y := 0, sp := 0, flags := Flags.cleared, inputs := { s.inputs with nmiPending := false },
    pc := join (s.mem.read 0xFFFD) (s.mem.read 0xFFFC) } := by
  simp only [State.cpuReset, read16_resetVector]

/-! ### The histories -/

/-- From `s` to `t` both histories have grown, and the parameters and the fault bit are as they were. -/
structure HistoryGrows (s t : State) : Prop where
  output : s.output <+: t.output
  hostEvents : s.hostEvents <+: t.hostEvents
  wiring : t.wiring = s.wiring
  targetHz : t.clock.targetHz = s.clock.targetHz
  chunk : t.clock.chunk = s.clock.chunk
  faulted : t.faulted = s.faulted

namespace HistoryGrows

theorem refl (s : State) : HistoryGrows s s := ⟨List.prefix_rfl, List.prefix_rfl, rfl, rfl, rfl, rfl⟩

theorem trans {s t u : State} (h : HistoryGrows s t) (k : HistoryGrows t u) : HistoryGrows s u :=
  ⟨h.output.trans k.output, h.hostEvents.trans k.hostEvents, k.wiring.trans h.wiring, k.targetHz.trans h.targetHz,
    k.chunk.trans h.chunk, k.faulted.trans h.faulted⟩

theorem after {s t u : State} (k : HistoryGrows t u) (h : HistoryGrows s t) : HistoryGrows s u := h.trans k

/-- The host's side is untouched, and the output has grown. -/
theorem of_hostSide {s t : State} (ho : s.output <+: t.output) (h : t.hostSide = s.hostSide) : HistoryGrows s t where
  output := ho
  hostEvents := (show t.hostEvents = s.hostEvents from congrArg HostSide.hostEvents h) ▸ List.prefix_rfl
  wiring := congrArg HostSide.wiring h
  targetHz := congrArg (·.clock.targetHz) h
  chunk := congrArg (·.clock.chunk) h
  faulted := congrArg HostSide.faulted h

theorem emit (s : State) (e : HostEvent) : HistoryGrows s (s.emit e) :=
  { refl s with hostEvents := List.prefix_append _ _ }

theorem flush (s : State) : HistoryGrows s s.flush := by
  obtain ⟨h, events⟩ := flush_eq s
  rw [h]
  exact { refl s with hostEvents := events }

theorem memWrite (s : State) (a : Addr) (v : Byte) : HistoryGrows s (s.memWrite a v) := by
  obtain ⟨m, p, o, h, ho⟩ := memWrite_eq s a v
  rw [h]
  exact { refl s with output := ho }

/-- What the CPU reads and writes makes the output history grow only. -/
theorem busProperty (s : State) : BusProperty fun t => s.output <+: t.output where
  congr _ _ h _ _ e := e ▸ h
  read u a h := by rwa [memRead_output]
  write u a v h := h.trans (memWrite u a v).output

theorem cpuStep {s t : State} {r : CpuResult} (h : cpuStep s.wireInputs = .next (r, t)) : HistoryGrows s t := by
  obtain ⟨q, u, hu, hs⟩ := cpuStep_next s.wireInputs
  cases h.symm.trans hu
  have wired : s.wireInputs.output = s.output := by rw [wireInputs_eq]
  exact of_hostSide ((busProperty s).cpuStep h (by rw [wired])) (hs.trans (wireInputs_hostSide s))

theorem afterCpuStep (r : CpuResult) (u : State) : HistoryGrows u (u.afterCpuStep r) := by
  obtain ⟨events, p, c, left, h, grown, rfl | rfl, -⟩ := afterCpuStep_eq r u <;> rw [h] <;>
    exact { refl u with hostEvents := grown }

theorem cpuTurn {s t : State} (h : cpuTurn s = .next t) : HistoryGrows s t := by
  obtain ⟨r, u, hu, ht⟩ := cpuTurn_exists s
  cases h.symm.trans ht
  exact (cpuStep hu).trans (afterCpuStep r u)

theorem deviceAct (act : DeviceAction) (s : State) : HistoryGrows s (deviceAct act s) := by
  cases act
  case sinkFailed port => exact emit s _
  all_goals exact { refl s with }

theorem machineReset (s : State) : HistoryGrows s s.machineReset := by
  rw [State.machineReset, cpuReset_eq]
  exact { refl s with output := List.prefix_append _ _ }

theorem stepOne {s t : State} (h : stepOne s = .next t) : HistoryGrows s t := by
  cases hf : s.faulted
  · obtain ⟨r, u, hu, ht⟩ := stepOne_exists s hf
    cases h.symm.trans ht
    have stepped : HistoryGrows s { u with hook := s.hook } := { cpuStep hu with }
    have flushed := stepped.trans (flush _)
    dsimp only
    split
    · exact flushed
    · exact flushed.trans (emit _ _)
  · simp only [Machine.stepOne, hf, if_true] at h
    cases h
    exact refl s

theorem loadState (snap : Snapshot) (now : Rat) (s : State) : HistoryGrows s (loadState snap now s) := by
  unfold Machine.loadState
  split
  · exact (flush _).after { refl s with }
  · exact refl s

theorem hostRead (start : Int) (len : Nat) (s : State) : HistoryGrows s (hostRead start len s) := by
  obtain ⟨p, h⟩ := hostReadBytes_eq start len s
  simp only [Machine.hostRead, h]
  exact { refl s with hostEvents := List.prefix_append _ _ }

theorem hostWrite (addr val : Int) (s : State) : HistoryGrows s (hostWrite addr val s) := by
  unfold Machine.hostWrite
  split
  · exact memWrite s _ _
  · exact emit s _

theorem resume (now : Rat) (s : State) : HistoryGrows s (s.resume now) := by
  unfold State.resume
  split <;> exact { refl s with }

theorem hostAct {act : HostAction} {s t : State} (h : hostAct act s = .next t) : HistoryGrows s t := by
  cases act
  case stepOne => exact stepOne h
  all_goals cases h
  case pause => exact (emit s.pause _).after { refl s with }
  case resume now => exact (resume now s).trans (emit _ _)
  case reset => exact machineReset s
  case setHook k => exact { refl s with }
  case setCycleAccurate flag => exact { refl s with }
  case saveState => exact emit s _
  case loadState snap now => exact loadState snap now s
  case hostRead start len => exact hostRead start len s
  case hostWrite addr val => exact hostWrite addr val s

theorem step {s t : State} (h : step s = .next t) : HistoryGrows s t := by
  refine step_cases (HistoryGrows s) h ?idle ?ended ?cpu ?device ?host ?irq ?nmi ?measured
  case idle => exact fun _ _ => { refl s with }
  case ended => exact fun _ => (flush _).after { refl s with }
  case cpu => exact fun _ _ _ _ _ hu => (cpuTurn hu).after { refl s with }
  case device => exact fun act _ _ _ => ((deviceAct act _).trans (flush _)).after { refl s with }
  case host => exact fun _ _ _ _ _ hu => ((hostAct hu).trans (flush _)).after { refl s with }
  case irq => intro level rest _; split <;> exact { refl s with }
  case nmi => intro level rest _; split <;> exact { refl s with }
  case measured => exact fun _ _ _ => { refl s with }

end HistoryGrows

/-- Settles O48, by the cases of a step. -/
theorem historiesOnlyGrow : Obligations.HistoriesOnlyGrow := by
  intro s t h
  obtain ⟨output, events, wiring, hz, chunk, faulted⟩ := HistoryGrows.step h
  exact ⟨output, events, wiring, hz, chunk, faulted⟩

/-! ### Device turns -/

/-- A device turn is its action on the state without the turn, flushed. -/
theorem step_device {s : State} {act : DeviceAction} {rest : List Turn} (hq : s.quantumLeft = 0)
    (ha : s.agenda = .device act :: rest) : step s = .next (deviceAct act { s with agenda := rest }).flush := by
  simp only [step, advance, hq, if_true, ha, takeTurn, endTurn]

/-- Settles O56: the action sets the PIA or logs a failed sink, and `flush_eq` says what is left after the flush. -/
theorem deviceTurns : Obligations.DeviceTurns := by
  intro s act rest hq ha pia events t
  refine ⟨?_, (flush_eq _).1⟩
  have acted : deviceAct act { s with agenda := rest } =
      { s with agenda := rest, pia := pia, hostEvents := s.hostEvents ++ events } := by
    cases act
    case sinkFailed port => rfl
    all_goals simp [deviceAct, pia, events]
  rw [step_device hq ha, acted]

end Sys2Proof.Machine
end


section
/-! SUPPORT. The machine after construction: the stored images, the reset vector and the invariant (70_reset_and_hazards.md
R401). -/

namespace Sys2Proof.Machine

/-! ### Reading an image and its neighbours -/

theorem Memory.read_append_left (m k : Memory) (a : Nat) (h : ∀ c ∈ k, c.1 ≠ a) : Memory.read (m ++ k) a = m.read a := by
  rw [read_append]
  split
  · rfl
  · rename_i hm
    push Not at hm
    rw [read_of_forall_ne m a hm, read_of_forall_ne k a h]

theorem Memory.read_append_right (m k : Memory) (a : Nat) (h : ∀ c ∈ m, c.1 ≠ a) : Memory.read (m ++ k) a = k.read a := by
  rw [read_append, if_neg]
  rintro ⟨c, hc, hca⟩
  exact h c hc hca

theorem Memory.ofBytes_ne (start : Nat) (bs : List Byte) (a : Nat) (h : a < start ∨ start + bs.length ≤ a) :
    ∀ c ∈ Memory.ofBytes start bs, c.1 ≠ a := by
  intro c hc
  obtain ⟨hl, hu, -⟩ := mem_ofBytes start bs c hc
  omega

/-- An image holds its bytes, also those that are not listed because they read the same unlisted. -/
theorem Memory.read_ofBytes (start : Nat) (bs : List Byte) (k : Nat) (v : Byte) (h : bs[k]? = some v) :
    (Memory.ofBytes start bs).read (start + k) = v := by
  induction bs generalizing start k with
  | nil => simp at h
  | cons b bs ih =>
    cases k with
    | zero =>
      obtain rfl : b = v := by simpa using h
      unfold Memory.ofBytes
      split
      · rename_i hb
        rw [read_of_forall_ne _ _ (ofBytes_ne _ _ _ (by omega)), hb]
      · simp [read_cons]
    | succ k =>
      have hk := ih (start + 1) k (by simpa using h)
      rw [show start + (k + 1) = start + 1 + k by omega]
      unfold Memory.ofBytes
      split
      · exact hk
      · rw [read_cons, if_neg (by dsimp only; omega), hk]

theorem Memory.ofBytes_replicate (start n : Nat) : Memory.ofBytes start (List.replicate n Config.unlistedByte) = [] := by
  induction n generalizing start with
  | zero => rfl
  | succ n ih => rw [List.replicate_succ, Memory.ofBytes, if_pos rfl, ih]

/-! ### The stored images of a machine -/

theorem Params.valid_iff (p : Params) : p.valid = true ↔
    p.romImage.length = 256 ∧ p.ram0Init.length = 4096 ∧ p.ram1Init.length = 4096 ∧ 0 < p.targetHz ∧ 0 < p.chunk := by
  simp [Params.valid, and_assoc]

/-- The memory of the machine at power-on: its three images. -/
def imageMemory (p : Params) : Memory :=
  Memory.ofBytes 0x0000 p.ram0Init ++ Memory.ofBytes 0xE000 p.ram1Init ++ Memory.ofBytes 0xFF00 p.romImage

section
variable {p : Params} (h : p.valid = true)
include h

theorem imageMemory_rom (k : Nat) (v : Byte) (hk : p.romImage[k]? = some v) : (imageMemory p).read (0xFF00 + k) = v := by
  obtain ⟨-, h0, h1, -, -⟩ := (Params.valid_iff p).mp h
  rw [imageMemory, Memory.read_append_right, Memory.read_ofBytes _ _ _ _ hk]
  intro c hc
  rcases List.mem_append.mp hc with hc | hc
  · exact Memory.ofBytes_ne _ _ _ (by omega) c hc
  · exact Memory.ofBytes_ne _ _ _ (by omega) c hc

theorem imageMemory_ram0 (k : Nat) (v : Byte) (hk : p.ram0Init[k]? = some v) : (imageMemory p).read k = v := by
  obtain ⟨-, h0, h1, -, -⟩ := (Params.valid_iff p).mp h
  have hlt := (List.getElem?_eq_some_iff.mp hk).1
  rw [imageMemory, Memory.read_append_left _ _ _ (Memory.ofBytes_ne _ _ _ (by omega)),
    Memory.read_append_left _ _ _ (Memory.ofBytes_ne _ _ _ (by omega))]
  simpa using Memory.read_ofBytes 0 _ _ _ hk

theorem imageMemory_ram1 (k : Nat) (v : Byte) (hk : p.ram1Init[k]? = some v) : (imageMemory p).read (0xE000 + k) = v := by
  obtain ⟨-, h0, h1, -, -⟩ := (Params.valid_iff p).mp h
  have hlt := (List.getElem?_eq_some_iff.mp hk).1
  rw [imageMemory, Memory.read_append_left _ _ _ (Memory.ofBytes_ne _ _ _ (by omega)),
    Memory.read_append_right _ _ _ (Memory.ofBytes_ne _ _ _ (by omega)), Memory.read_ofBytes _ _ _ _ hk]

theorem imageMemory_wf : (imageMemory p).wf = true := by
  obtain ⟨hr, h0, h1, -, -⟩ := (Params.valid_iff p).mp h
  have rising : ∀ (start : Nat) (bs : List Byte), Memory.rising none (Memory.ofBytes start bs) = true :=
    fun start bs => Memory.rising_ofBytes start bs none (by simp [above])
  rw [imageMemory, Memory.wf_iff]
  refine ⟨Memory.rising_append _ _ _ (Memory.rising_append _ _ _ (rising _ _) (rising _ _) ?_) (rising _ _) ?_, ?_⟩
  · intro c hc d hd
    have := Memory.mem_ofBytes _ _ c hc
    have := Memory.mem_ofBytes _ _ d hd
    omega
  · intro c hc d hd
    have := Memory.mem_ofBytes _ _ d hd
    rcases List.mem_append.mp hc with hc | hc
    all_goals
      have := Memory.mem_ofBytes _ _ c hc
      omega
  · intro c hc
    simp only [isStored, isRam, isRom, Bool.or_eq_true, Bool.and_eq_true, decide_eq_true_eq]
    rcases List.mem_append.mp hc with hc | hc
    · rcases List.mem_append.mp hc with hc | hc
      all_goals
        obtain ⟨hl, hu, hv⟩ := Memory.mem_ofBytes _ _ c hc
        exact ⟨hv, by omega⟩
    · obtain ⟨hl, hu, hv⟩ := Memory.mem_ofBytes _ _ c hc
      exact ⟨hv, by omega⟩

end

/-! ### Construction -/

theorem busConstruct_machineBus : busConstruct machineBus = .ok machineBus := rfl

theorem machineConstruct_invalid (p : Params) (h : p.valid = false) : machineConstruct p = .error .configError := by
  rw [machineConstruct, h, if_neg Bool.false_ne_true]

theorem machineConstruct_valid (p : Params) (h : p.valid = true) :
    machineConstruct p = .ok (State.powerOn p).machineReset := by
  rw [machineConstruct, if_pos h, busConstruct_machineBus]

/-- The machine just built: that of `State.reset` with its images, the word at the reset vector, and its own parameters. -/
theorem machineReset_powerOn (p : Params) : (State.powerOn p).machineReset = { State.reset with
    mem := imageMemory p, pc := join ((imageMemory p).read 0xFFFD) ((imageMemory p).read 0xFFFC),
    clock := ⟨p.targetHz, p.chunk, true, 0, false, none, none⟩,
    wiring := ⟨p.piaIrqWired, p.hostReadSideEffects, false⟩ } := by
  rw [State.machineReset, cpuReset_eq]
  rfl

theorem constructed_inv (p : Params) (h : p.valid = true) : Inv (State.powerOn p).machineReset := by
  obtain ⟨-, -, -, -, hchunk⟩ := (Params.valid_iff p).mp h
  rw [machineReset_powerOn]
  exact {
    mem_wf := imageMemory_wf h
    flushed := fun _ => rfl
    nmi_tied := fun _ => ⟨rfl, rfl⟩
    irq_unwired := fun _ _ => rfl
    chunk_pos := hchunk
    quantum_bounded := Nat.zero_le _ }

theorem imageMemory_zero (hz : Rat) (chunk : Nat) (wired effects : Bool) :
    imageMemory ⟨List.replicate 256 0, List.replicate 4096 0, List.replicate 4096 0, wired, effects, hz, chunk⟩ = [] := by
  have zero := Memory.ofBytes_replicate
  rw [Config.unlistedByte] at zero
  simp only [imageMemory, zero, List.append_nil]

/-- Settles O51: the machine just built is known field by field (`machineReset_powerOn`), and its memory holds the images. -/
theorem constructedMachine : Obligations.ConstructedMachine := by
  refine ⟨machineConstruct_invalid, fun p h => ⟨_, machineConstruct_valid p h, constructed_inv p h, ?_⟩, ?_⟩
  · rw [machineReset_powerOn]
    exact ⟨imageMemory_rom h, imageMemory_ram0 h, imageMemory_ram1 h, rfl, rfl⟩
  · have valid := (Params.valid_iff
      ⟨List.replicate 256 0, List.replicate 4096 0, List.replicate 4096 0, false, false, 1, 1⟩).mpr
      ⟨List.length_replicate, List.length_replicate, List.length_replicate, zero_lt_one, zero_lt_one⟩
    rw [machineConstruct_valid _ valid, machineReset_powerOn, imageMemory_zero]
    rfl

end Sys2Proof.Machine
end


section
/-! SUPPORT. What every action of an agent keeps: the canonical form of the memory, the bytes of the ROM, the soundness of the
interrupt inputs, and the steps left of a quantum; from these, the invariant (10_state.md R36, R51; 60_exceptions.md R302, R361). -/

namespace Sys2Proof.Machine

/-! ### The interrupt inputs -/

/-- The clauses of `Inv` about the interrupt inputs: the Machine ties NMI low, and requests no IRQ that is not wired. -/
structure InputsSound (w : Wiring) (i : Inputs) : Prop where
  nmi_tied : w.cpuAlone = false → i.nmiLine = false ∧ i.nmiPending = false
  irq_unwired : w.cpuAlone = false → w.piaIrqWired = false → i.irqLine = false

theorem InputsSound.clearPending {w : Wiring} {i : Inputs} (h : InputsSound w i) :
    InputsSound w { i with nmiPending := false } where
  nmi_tied hc := ⟨(h.nmi_tied hc).1, rfl⟩
  irq_unwired := h.irq_unwired

theorem InputsSound.of_alone {w : Wiring} {i : Inputs} (h : w.cpuAlone = true) : InputsSound w i := by
  constructor <;> simp [h]

theorem wireInputs_sound {s : State} (h : InputsSound s.wiring s.inputs) : InputsSound s.wiring s.wireInputs.inputs := by
  cases hc : s.wiring.cpuAlone
  · rw [wireInputs_machine s hc]
    exact ⟨fun _ => ⟨rfl, (h.nmi_tied hc).2⟩, fun _ hw => by rw [hw, Bool.false_and]⟩
  · exact .of_alone hc

/-- A CPU step leaves the interrupt inputs as they were, or takes the pending NMI. -/
theorem cpuStep_inputs {s t : State} {r : CpuResult} (h : cpuStep s = .next (r, t)) :
    t.inputs = s.inputs ∨ t.inputs = { s.inputs with nmiPending := false } := by
  have steers : ∀ {u v : State}, Steers u v → v.inputs = u.inputs := fun hs => congrArg Surroundings.inputs hs
  unfold cpuStep at h
  split at h
  · cases h
    exact .inl rfl
  split at h
  · cases h
    exact .inr (steers (interrupt_steers _ nmiVector false))
  split at h
  · cases h
    exact .inl (steers (interrupt_steers s irqVector false))
  obtain ⟨i, hi⟩ := decode_fetch s
  obtain ⟨u, hu, hs⟩ := exec_steered i s.fetch.2
  simp only [State.runInstr, hi, hu] at h
  cases h
  refine .inl ((steers hs).trans ?_)
  rw [fetch_eq]

/-! ### The actions of the agents -/

/-- What any action of an agent keeps, from `s` to `t`. -/
structure ActionKeeps (s t : State) : Prop where
  wf : s.mem.wf = true → t.mem.wf = true
  rom : ∀ b, isRom b = true → t.mem.read b = s.mem.read b
  inputs : InputsSound s.wiring s.inputs → InputsSound t.wiring t.inputs
  left : t.quantumLeft = s.quantumLeft

namespace ActionKeeps

theorem refl (s : State) : ActionKeeps s s := ⟨id, fun _ _ => rfl, id, rfl⟩

theorem trans {s t u : State} (h : ActionKeeps s t) (k : ActionKeeps t u) : ActionKeeps s u :=
  ⟨k.wf ∘ h.wf, fun b hb => (k.rom b hb).trans (h.rom b hb), k.inputs ∘ h.inputs, k.left.trans h.left⟩

theorem after {s t u : State} (k : ActionKeeps t u) (h : ActionKeeps s t) : ActionKeeps s u := h.trans k

theorem memWrite (s : State) (a : Addr) (v : Byte) : ActionKeeps s (s.memWrite a v) where
  wf := memWrite_wf s a v
  rom := memWrite_rom s a v
  inputs h := by rwa [memWrite_wiring, memWrite_inputs]
  left := memWrite_quantumLeft s a v

theorem flush (s : State) : ActionKeeps s s.flush := by
  rw [(flush_eq s).1]
  exact { refl s with }

/-- What bus accesses do to the memory. -/
theorem busProperty (s : State) : BusProperty fun t =>
    (s.mem.wf = true → t.mem.wf = true) ∧ ∀ b, isRom b = true → t.mem.read b = s.mem.read b where
  congr _ _ h e _ _ := e ▸ h
  read u a h := by rwa [memRead_mem]
  write u a v h := ⟨fun hs => memWrite_wf u a v (h.1 hs), fun b hb => (memWrite_rom u a v b hb).trans (h.2 b hb)⟩

/-- One CPU step, the inputs wired first. -/
theorem cpuStep {s t : State} {r : CpuResult} (h : cpuStep s.wireInputs = .next (r, t)) : ActionKeeps s t := by
  obtain ⟨q, u, hu, hs⟩ := cpuStep_next s.wireInputs
  cases h.symm.trans hu
  have host : t.hostSide = s.hostSide := hs.trans (wireInputs_hostSide s)
  have wiring : t.wiring = s.wiring := congrArg HostSide.wiring host
  have wired : s.wireInputs.mem = s.mem := by rw [wireInputs_eq]
  obtain ⟨wf, rom⟩ := (busProperty s).cpuStep h ⟨fun hw => wired ▸ hw, fun b _ => by rw [wired]⟩
  refine ⟨wf, rom, fun hi => ?_, congrArg HostSide.quantumLeft host⟩
  rw [wiring]
  obtain e | e := cpuStep_inputs h <;> rw [e]
  · exact wireInputs_sound hi
  · exact (wireInputs_sound hi).clearPending

theorem deviceAct (act : DeviceAction) (s : State) : ActionKeeps s (deviceAct act s) := by
  cases act <;> exact { refl s with }

theorem stepOne {s t : State} (h : stepOne s = .next t) : ActionKeeps s t := by
  cases hf : s.faulted
  · obtain ⟨r, u, hu, ht⟩ := stepOne_exists s hf
    cases h.symm.trans ht
    have stepped : ActionKeeps s { u with hook := s.hook } := { cpuStep hu with }
    have flushed := stepped.trans (flush _)
    dsimp only
    split
    · exact flushed
    · exact { flushed with }
  · simp only [Machine.stepOne, hf, if_true] at h
    cases h
    exact refl s

theorem machineReset (s : State) : ActionKeeps s s.machineReset := by
  rw [State.machineReset, cpuReset_eq]
  exact { refl s with inputs := InputsSound.clearPending }

/-- A snapshot replaces the RAM with RAM, and keeps the ROM's cells (60_exceptions.md R386). -/
theorem replaceBy (s : State) (snap : Snapshot) (h : snap.wellFormed = true) : ActionKeeps s (s.replaceBy snap) := by
  simp only [Snapshot.wellFormed, Bool.and_eq_true, List.all_eq_true] at h
  obtain ⟨wf, ram⟩ := h
  refine ⟨fun hs => ?_, fun b hb => ?_, InputsSound.clearPending, rfl⟩
  · exact Memory.append_wf _ _ wf (Memory.filter_wf _ _ hs) ram fun c hc => (List.mem_filter.mp hc).2
  · have notRam : ∀ c ∈ snap.ram, c.1 ≠ b := by
      rintro c hc rfl
      have hr := ram c hc
      simp only [isRam, isRom, Bool.or_eq_true, Bool.and_eq_true, decide_eq_true_eq] at hr hb
      omega
    exact (Memory.read_append_right _ _ b notRam).trans (Memory.read_filter s.mem b isRom hb)

theorem loadState (snap : Snapshot) (now : Rat) (s : State) : ActionKeeps s (loadState snap now s) := by
  unfold Machine.loadState
  split
  · rename_i h
    simp only [Bool.and_eq_true] at h
    exact (flush _).after { replaceBy s snap h.2 with }
  · exact refl s

theorem hostWrite (addr val : Int) (s : State) : ActionKeeps s (hostWrite addr val s) := by
  unfold Machine.hostWrite
  split
  · exact memWrite s _ _
  · exact { refl s with }

theorem hostAct {act : HostAction} {s t : State} (h : hostAct act s = .next t) : ActionKeeps s t := by
  cases act
  case stepOne => exact stepOne h
  all_goals cases h
  case reset => exact machineReset s
  case loadState snap now => exact loadState snap now s
  case hostRead start len =>
    obtain ⟨p, h⟩ := hostReadBytes_eq start len s
    simp only [Machine.hostRead, h]
    exact { refl s with }
  case hostWrite addr val => exact hostWrite addr val s
  all_goals exact { refl s with }

end ActionKeeps

/-! ### The invariant -/

theorem Inv.inputsSound {s : State} (h : Inv s) : InputsSound s.wiring s.inputs := ⟨h.nmi_tied, h.irq_unwired⟩

/-- A flush between quanta makes the invariant whole. -/
theorem inv_flush {u : State} (wf : u.mem.wf = true) (inputs : InputsSound u.wiring u.inputs) (chunk : 0 < u.clock.chunk)
    (idle : u.quantumLeft = 0) : Inv u.flush := by
  rw [(flush_eq u).1]
  exact ⟨wf, fun _ => rfl, inputs.nmi_tied, inputs.irq_unwired, chunk, idle ▸ Nat.zero_le _⟩

/-- A device or host action between quanta, and the flush that ends its turn. -/
theorem Inv.afterAction {s u : State} (h : Inv s) (idle : s.quantumLeft = 0) (g : HistoryGrows s u) (k : ActionKeeps s u) :
    Inv u.flush :=
  inv_flush (k.wf h.mem_wf) (k.inputs h.inputsSound) (g.chunk ▸ h.chunk_pos) (k.left.trans idle)

theorem Inv.withAgenda {s : State} (h : Inv s) (rest : List Turn) : Inv { s with agenda := rest } := { h with }

/-- Inside a quantum nothing need be flushed. -/
theorem Inv.inQuantum {s : State} (h : Inv s) {n : Nat} (hn : n ≠ 0) (hc : n ≤ s.clock.chunk) (rest : List Turn) :
    Inv { s with agenda := rest, quantumLeft := n } :=
  { h with flushed := fun h0 => absurd h0 hn, quantum_bounded := hc }

theorem quantumLength_bounds (asked : Nat) (c : Clock) (h : 0 < c.chunk) :
    quantumLength asked c ≠ 0 ∧ quantumLength asked c ≤ c.chunk := by
  unfold quantumLength
  split <;> omega

theorem Inv.cpuTurn {q t : State} (h : Inv q) (ht : cpuTurn q = .next t) : Inv t := by
  obtain ⟨r, u, hu, hc⟩ := cpuTurn_exists q
  cases ht.symm.trans hc
  have k := ActionKeeps.cpuStep hu
  have chunk : u.clock.chunk = q.clock.chunk := (HistoryGrows.cpuStep hu).chunk
  have inputs := k.inputs h.inputsSound
  obtain ⟨events, p, c, left, e, -, hclock, hleft, flushed, -⟩ := afterCpuStep_eq r u
  have hchunk : c.chunk = q.clock.chunk := by obtain rfl | rfl := hclock <;> exact chunk
  rw [e]
  refine ⟨k.wf h.mem_wf, fun h0 => ?_, inputs.nmi_tied, inputs.irq_unwired, hchunk ▸ h.chunk_pos, ?_⟩
  · rw [flushed h0]
  · exact hchunk ▸ hleft.trans (k.left ▸ h.quantum_bounded)

/-- A turn that drives an interrupt input acts on a CPU standing alone only, whose inputs `Inv` leaves free. -/
theorem Inv.driveInputs {s : State} (h : Inv s) (i : Inputs) : Inv (if s.wiring.cpuAlone then { s with inputs := i } else s) := by
  split
  · rename_i hc
    have sound : InputsSound s.wiring i := .of_alone hc
    exact { h with nmi_tied := sound.nmi_tied, irq_unwired := sound.irq_unwired }
  · exact h

/-- Settles O38, by the cases of a step: an action between quanta ends with a flush, and a CPU step counts the quantum down. -/
theorem stepKeepsInv : Obligations.StepKeepsInv := by
  intro s t inv h
  refine step_cases Inv h ?idle ?ended ?cpu ?device ?host ?irq ?nmi ?measured
  case idle => exact fun _ rest => inv.withAgenda rest
  case ended => exact fun _ => inv_flush inv.mem_wf inv.inputsSound inv.chunk_pos rfl
  case cpu =>
    intro rest n u hn _ hu
    have bounds : n ≠ 0 ∧ n ≤ s.clock.chunk := by
      obtain ⟨rfl, h0, -⟩ | ⟨k, rfl⟩ := hn
      · exact ⟨h0, inv.quantum_bounded⟩
      · exact quantumLength_bounds k s.clock inv.chunk_pos
    exact (inv.inQuantum bounds.1 bounds.2 rest).cpuTurn hu
  case device =>
    exact fun act rest hq _ => (inv.withAgenda rest).afterAction hq (.deviceAct act _) (.deviceAct act _)
  case host => exact fun _ rest _ hq _ hu => (inv.withAgenda rest).afterAction hq (.hostAct hu) (.hostAct hu)
  case irq => exact fun level rest _ => (inv.withAgenda rest).driveInputs _
  case nmi => exact fun level rest _ => (inv.withAgenda rest).driveInputs _
  case measured => exact fun d rest _ => { inv with }

/-- Settles O39: nothing is stored, pending or in progress after reset. -/
theorem resetSatisfiesInv : Obligations.ResetSatisfiesInv where
  mem_wf := rfl
  flushed _ := rfl
  nmi_tied _ := ⟨rfl, rfl⟩
  irq_unwired _ _ := rfl
  chunk_pos := Nat.one_pos
  quantum_bounded := Nat.zero_le _

/-- Settles O40, by the cases of a step: what an agent does keeps the ROM, and the end of a turn does not touch the memory. -/
theorem romNeverChanges : Obligations.RomNeverChanges := by
  intro s t b hb h
  refine step_cases (fun t => t.mem.read b = s.mem.read b) h ?idle ?ended ?cpu ?device ?host ?irq ?nmi ?measured
  case idle => exact fun _ _ => rfl
  case ended => exact fun _ => (ActionKeeps.flush _).rom b hb
  case cpu =>
    intro rest n v _ _ hv
    obtain ⟨r, u, hu, hc⟩ := cpuTurn_exists { s with agenda := rest, quantumLeft := n }
    cases hv.symm.trans hc
    obtain ⟨_, _, _, _, e, -⟩ := afterCpuStep_eq r u
    rw [e]
    exact (ActionKeeps.cpuStep hu).rom b hb
  case device => exact fun act _ _ _ => ((ActionKeeps.deviceAct act _).trans (.flush _)).rom b hb
  case host => exact fun _ _ _ _ _ hu => ((ActionKeeps.hostAct hu).trans (.flush _)).rom b hb
  case irq => intro level rest _; split <;> rfl
  case nmi => intro level rest _; split <;> rfl
  case measured => exact fun _ _ _ => rfl

end Sys2Proof.Machine
end


section
/-! SUPPORT. The parts of the state the CPU reads and writes: the bits of the status byte (10_state.md R29), the bytes of a fetch
(20_memory.md R83, R84), the order of a CPU step (60_exceptions.md R300), and what an instruction can do to the PIA (R330, R331). -/

namespace Sys2Proof.Machine

/-! ### The status byte -/

theorem statusByte_getLsbD (b : Bool) (f : Flags) (k : Nat) (hk : k < 8) : (statusByte b f).getLsbD k =
    [f.c, f.z, f.i, f.d, b, true, f.v, f.n][k] := by
  have one : ∀ n, Nat.testBit 1 n = (decide (n = 0) && true) := Nat.testBit_bool_toNat true
  simp only [statusByte, BitVec.getLsbD_ofNat, Nat.testBit_or, Nat.testBit_shiftLeft, Nat.testBit_bool_toNat]
  interval_cases k <;> simp [one]

/-- The mask `0xCF` forgets bits 5 and 4 and keeps the others. -/
theorem and_CF_eq_iff (v w : Byte) :
    v &&& 0xCF = w &&& 0xCF ↔ ∀ k, k < 8 → k ≠ 5 → k ≠ 4 → v.getLsbD k = w.getLsbD k := by
  have mask : ∀ k, k < 8 → ((0xCF : Byte).getLsbD k = true ↔ k ≠ 5 ∧ k ≠ 4) := by decide
  constructor
  · intro h k hk h5 h4
    simpa only [BitVec.getLsbD_and, (mask k hk).mpr ⟨h5, h4⟩, Bool.and_true] using congrArg (BitVec.getLsbD · k) h
  · intro h
    refine BitVec.eq_of_getLsbD_eq fun k hk => ?_
    rw [BitVec.getLsbD_and, BitVec.getLsbD_and]
    cases hm : (0xCF : Byte).getLsbD k
    · rw [Bool.and_false, Bool.and_false]
    · rw [h k hk ((mask k hk).mp hm).1 ((mask k hk).mp hm).2]

/-- `SetP` reads every bit but 5 and 4. -/
theorem flagsOfByte_eq_iff (v w : Byte) : flagsOfByte v = flagsOfByte w ↔ v &&& 0xCF = w &&& 0xCF := by
  rw [and_CF_eq_iff]
  simp only [flagsOfByte, Flags.mk.injEq]
  constructor
  · rintro ⟨h7, h6, h3, h2, h1, h0⟩ k hk h5 h4
    obtain rfl | rfl | rfl | rfl | rfl | rfl : k = 7 ∨ k = 6 ∨ k = 3 ∨ k = 2 ∨ k = 1 ∨ k = 0 := by omega
    all_goals assumption
  · intro h
    exact ⟨h 7 (by decide) (by decide) (by decide), h 6 (by decide) (by decide) (by decide),
      h 3 (by decide) (by decide) (by decide), h 2 (by decide) (by decide) (by decide),
      h 1 (by decide) (by decide) (by decide), h 0 (by decide) (by decide) (by decide)⟩

/-- Settles O29, bit by bit. -/
theorem statusByteLayout : Obligations.StatusByteLayout := by
  refine ⟨fun b f => ?_, flagsOfByte_eq_iff⟩
  have bit := statusByte_getLsbD b f
  exact ⟨bit 7 (by decide), bit 6 (by decide), bit 5 (by decide), bit 4 (by decide), bit 3 (by decide), bit 2 (by decide),
    bit 1 (by decide), bit 0 (by decide), flagsOfByte_statusByte b f⟩

/-! ### Fetching -/

/-- How many bytes a format has (30_encoding.md R101). -/
def formatLength (b : Build) : Nat :=
  match b with
  | .f1 _ => 1
  | .f2 _ => 2
  | .f3 _ => 3

theorem rowOf_mem (op : Byte) : ∃ rows ∈ opcodeMap, rowOf op ∈ rows := by
  have width : ∀ rows ∈ opcodeMap, rows.length = 16 := by decide
  have high : op.toNat / 16 < opcodeMap.length := Nat.div_lt_of_lt_mul op.isLt
  have low : op.toNat % 16 < opcodeMap[op.toNat / 16].length := by
    rw [width _ (List.getElem_mem high)]
    exact Nat.mod_lt _ (by decide)
  refine ⟨opcodeMap[op.toNat / 16], List.getElem_mem high, ?_⟩
  rw [rowOf, List.getD_eq_getElem _ _ high, List.getD_eq_getElem _ _ low]
  exact List.getElem_mem low

/-- In every cell of the opcode map the mode is as long as the format (30_encoding.md R101, R102). -/
theorem rowOf_length (op : Byte) : (rowOf op).mode.length = formatLength (rowOf op).build := by
  have all : ∀ rows ∈ opcodeMap, ∀ row ∈ rows, row.mode.length = formatLength row.build := by decide
  obtain ⟨rows, hrows, hrow⟩ := rowOf_mem op
  exact all rows hrows _ hrow

theorem operandSkipped_iff (op : Byte) : operandSkipped op = true ↔ (rowOf op).mnemonic = .nop ∧ (rowOf op).mode = .imm := by
  simp [operandSkipped]

theorem add_two_addr (pc : Addr) : pc + 2 = pc + 1 + 1 := (BitVec.add_assoc pc 1 1).symm

theorem add_three_addr (pc : Addr) : pc + 3 = pc + 1 + 1 + 1 := by
  rw [← add_two_addr, BitVec.add_assoc]
  rfl

theorem fetchByte_eq (s : State) (a next : Addr) (h : s.pc = a) (hn : a + 1 = next) :
    s.fetchByte = ((s.memRead a).1, { (s.memRead a).2 with pc := next }) := by
  rw [State.fetchByte, h, hn]

/-- The state after the opcode byte was read and latched (10_state.md R31). -/
def State.latched (s : State) : State := { s.fetchByte.2 with opcode := s.fetchByte.1 }

theorem fetch_f1 {s : State} {i : Instr} (h : (rowOf s.fetchByte.1).build = .f1 i) :
    s.fetch = ([s.fetchByte.1], s.latched) := by
  simp only [State.fetch, h, State.latched]

theorem fetch_f2 {s : State} {k : Byte → Instr} (h : (rowOf s.fetchByte.1).build = .f2 k) :
    s.fetch = ([s.fetchByte.1, s.latched.fetchByte.1],
      if operandSkipped s.fetchByte.1 then { s.latched with pc := s.latched.pc + 1 } else s.latched.fetchByte.2) := by
  simp only [State.fetch, h, State.latched]
  split <;> rfl

theorem fetch_f3 {s : State} {k : Addr → Instr} (h : (rowOf s.fetchByte.1).build = .f3 k) :
    s.fetch = ([s.fetchByte.1, s.latched.fetchByte.1, s.latched.fetchByte.2.fetchByte.1],
      s.latched.fetchByte.2.fetchByte.2) := by
  simp only [State.fetch, h, State.latched]

/-- A fetch, byte by byte, in the form of the length of the opcode's mode. -/
theorem fetch_length (s : State) : s.fetch =
    if (rowOf s.fetchByte.1).mode.length = 1 then ([s.fetchByte.1], s.latched)
    else if (rowOf s.fetchByte.1).mode.length = 3 then
      ([s.fetchByte.1, s.latched.fetchByte.1, s.latched.fetchByte.2.fetchByte.1], s.latched.fetchByte.2.fetchByte.2)
    else ([s.fetchByte.1, s.latched.fetchByte.1],
      if (rowOf s.fetchByte.1).mnemonic = .nop ∧ (rowOf s.fetchByte.1).mode = .imm then
        { s.latched with pc := s.pc + 2 } else s.latched.fetchByte.2) := by
  simp only [rowOf_length, ← operandSkipped_iff, add_two_addr]
  cases h : (rowOf s.fetchByte.1).build with
  | f1 i => exact fetch_f1 h
  | f2 k => exact fetch_f2 h
  | f3 k => exact fetch_f3 h

/-- A byte fetched from RAM or ROM. -/
theorem fetchByte_stored {s : State} (h : isStored s.pc.toNat = true) :
    s.fetchByte = (s.mem.read s.pc.toNat, { s with pc := s.pc + 1 }) := by
  simp only [State.fetchByte, memRead_stored s s.pc h]

theorem fetch_stored {s : State} (h0 : isStored s.pc.toNat = true) (h1 : isStored (s.pc + 1).toNat = true)
    (h2 : isStored (s.pc + 1 + 1).toNat = true) :
    s.fetch.1 = [s.mem.read s.pc.toNat, s.mem.read (s.pc + 1).toNat, s.mem.read (s.pc + 1 + 1).toNat].take
      (rowOf (s.mem.read s.pc.toNat)).mode.length ∧
    s.fetch.2 = { s with
      opcode := s.mem.read s.pc.toNat, pc := s.pc + BitVec.ofNat 16 (rowOf (s.mem.read s.pc.toNat)).mode.length } := by
  have latched : s.latched = { s with opcode := s.mem.read s.pc.toNat, pc := s.pc + 1 } := by
    rw [State.latched, fetchByte_stored h0]
  have second : s.latched.fetchByte =
      (s.mem.read (s.pc + 1).toNat, { s with opcode := s.mem.read s.pc.toNat, pc := s.pc + 1 + 1 }) := by
    rw [latched]
    exact fetchByte_stored h1
  have third : s.latched.fetchByte.2.fetchByte =
      (s.mem.read (s.pc + 1 + 1).toNat, { s with opcode := s.mem.read s.pc.toNat, pc := s.pc + 1 + 1 + 1 }) := by
    rw [second]
    exact fetchByte_stored h2
  rw [rowOf_length]
  have first := fetchByte_stored h0
  cases h : (rowOf (s.mem.read s.pc.toNat)).build with
  | f1 i =>
    rw [fetch_f1 (by rwa [first]), first, latched]
    exact ⟨rfl, rfl⟩
  | f2 k =>
    rw [fetch_f2 (by rwa [first]), first, second, latched]
    refine ⟨rfl, ?_⟩
    rw [show s.pc + BitVec.ofNat 16 (formatLength (.f2 k)) = s.pc + 1 + 1 from add_two_addr s.pc]
    split <;> rfl
  | f3 k =>
    rw [fetch_f3 (by rwa [first]), first, third, second]
    rw [show s.pc + BitVec.ofNat 16 (formatLength (.f3 k)) = s.pc + 1 + 1 + 1 from add_three_addr s.pc]
    exact ⟨rfl, rfl⟩

/-- Settles O36: `fetch_length` and `fetch_stored`, and the cell of opcode 0x00 for an unmapped `PC`. -/
theorem fetchReadsTheBytesAtPc : Obligations.FetchReadsTheBytesAtPc := by
  refine ⟨fun s => ?_, fun s h0 h1 h2 => ?_, fun s h hp => ?_, fun s hm hi => ?_⟩
  · intro op s1 m1 s2 m2 row
    have first : s.fetchByte = (op.1, { op.2 with pc := s.pc + 1 }) := rfl
    have latched : s.latched = s1 := rfl
    have second : s1.fetchByte = (m1.1, s2) := fetchByte_eq s1 _ _ rfl (add_two_addr s.pc).symm
    have third : s2.fetchByte = (m2.1, { m2.2 with pc := s.pc + 3 }) :=
      fetchByte_eq s2 _ _ rfl ((congrArg (· + 1) (add_two_addr s.pc)).trans (add_three_addr s.pc).symm)
    rw [fetch_length, first, latched, second, third]
  · rw [add_two_addr] at h2 ⊢
    exact fetch_stored h0 h1 h2
  · have first : s.fetchByte = (0x00, { s with pc := s.pc + 1 }) := by
      rw [State.fetchByte, memRead_unmapped s s.pc h (by simpa [isPia] using hp)]
    have brk : s.fetch = ([0x00], { s with opcode := 0x00, pc := s.pc + 1 }) := by
      rw [fetch_f1 (i := .brk) (by rw [first]; exact (rfl : (rowOf 0x00).build = _)), State.latched, first]
    exact ⟨brk, by rw [brk]; rfl⟩
  · have length : (rowOf s.fetchByte.1).mode.length = 2 := congrArg Mode.length hi
    rw [fetch_length, length, if_neg (by decide), if_neg (by decide)]
    exact if_pos ⟨hm, hi⟩

/-! ### The order of a CPU step -/

/-- The entry through a vector in ROM that NMI and IRQ share, its 7 cycles included (60_exceptions.md R303–R305). -/
theorem interruptEntry_charge (s : State) (vector : Addr) (n : Nat) (hv : vector.toNat = n)
    (h0 : isRom n = true) (h1 : isRom (n + 1) = true) : (s.interrupt vector false).charge 7 = { s with
      mem := ((s.mem.write (256 + s.sp.toNat) (hi s.pc)).write (256 + (s.sp - 1).toNat) (lo s.pc)).write
        (256 + (s.sp - 2).toNat) (statusByte false s.flags)
      sp := s.sp - 3, flags := { s.flags with i := true }
      pc := join (s.mem.read (n + 1)) (s.mem.read n), cycles := s.cycles + 7 } := by
  have next : (vector + 1).toNat = n + 1 := by
    simp only [isRom, Bool.and_eq_true, decide_eq_true_eq] at h1
    rw [BitVec.toNat_add, hv]
    exact Nat.mod_eq_of_lt (by change n + 1 < 65536; omega)
  have two : s.sp - 1 - 1 = s.sp - 2 := sub_sub s.sp 1 1
  have three : s.sp - 2 - 1 = s.sp - 3 := sub_sub s.sp 2 1
  rw [interrupt_eq s vector false (hv ▸ h0) (next ▸ h1), hv, next, two, three]
  rfl

theorem cpuStep_halted {s : State} (h : s.hook.allows s.pc = false) : cpuStep s = .next (.halted, s) := by
  simp [cpuStep, h]

theorem cpuStep_nmi {s : State} (h : s.hook.allows s.pc = true) (hn : s.inputs.nmiPending = true) :
    cpuStep s = .next (.nmi, s.takeNmi) := by
  simp [cpuStep, h, hn]

theorem cpuStep_irq {s : State} (h : s.hook.allows s.pc = true) (hn : s.inputs.nmiPending = false)
    (hi : s.irqTaken = true) : cpuStep s = .next (.irq, s.takeIrq) := by
  simp [cpuStep, h, hn, hi]

theorem cpuStep_instr {s : State} (h : s.hook.allows s.pc = true) (hn : s.inputs.nmiPending = false)
    (hi : s.irqTaken = false) : ∃ (i : Instr) (t : State), decode s.fetch.1 = .ok (i, []) ∧ exec i s.fetch.2 = .next t ∧
      cpuStep s = .next (.ok, t) := by
  obtain ⟨i, hd⟩ := decode_fetch s
  obtain ⟨t, ht, -⟩ := exec_steered i s.fetch.2
  exact ⟨i, t, hd, ht, by simp [cpuStep, h, hn, hi, State.runInstr, hd, ht]⟩

theorem takeNmi_eq (s : State) : s.takeNmi = { s with
    mem := ((s.mem.write (256 + s.sp.toNat) (hi s.pc)).write (256 + (s.sp - 1).toNat) (lo s.pc)).write
      (256 + (s.sp - 2).toNat) (statusByte false s.flags)
    sp := s.sp - 3, flags := { s.flags with i := true }
    pc := join (s.mem.read (0xFFFA + 1)) (s.mem.read 0xFFFA), cycles := s.cycles + 7
    inputs := { s.inputs with nmiPending := false } } := interruptEntry_charge _ nmiVector 0xFFFA rfl rfl rfl

theorem takeIrq_eq (s : State) : s.takeIrq = { s with
    mem := ((s.mem.write (256 + s.sp.toNat) (hi s.pc)).write (256 + (s.sp - 1).toNat) (lo s.pc)).write
      (256 + (s.sp - 2).toNat) (statusByte false s.flags)
    sp := s.sp - 3, flags := { s.flags with i := true }
    pc := join (s.mem.read (0xFFFE + 1)) (s.mem.read 0xFFFE), cycles := s.cycles + 7 } :=
  interruptEntry_charge _ irqVector 0xFFFE rfl rfl rfl

theorem irqTaken_eq_true_iff (s : State) : s.irqTaken = true ↔ s.inputs.irqLine = true ∧ s.flags.i = false := by
  simp [State.irqTaken]

theorem irqTaken_eq_false_iff (s : State) : s.irqTaken = false ↔ s.inputs.irqLine = false ∨ s.flags.i = true := by
  rw [State.irqTaken, Bool.and_eq_false_iff, Bool.not_eq_false']

theorem step_turn {s : State} {turn : Turn} {rest : List Turn} (hq : s.quantumLeft = 0) (ha : s.agenda = turn :: rest) :
    step s = takeTurn turn { s with agenda := rest } := by
  simp only [step, advance, if_pos hq, ha]

/-- Settles O42: one lemma for each result of a CPU step, and the turns by definition. -/
theorem cpuStepOrder : Obligations.CpuStepOrder := by
  refine ⟨fun s => ⟨cpuStep_halted, fun hh hn => ?_, fun hh hn hl hf => ?_, fun hh hn hm => ?_⟩, fun pc target set => ?_,
    fun s h rest hq ha => step_turn hq ha, fun s level => ⟨rfl, rfl, ?_⟩, fun s level rest hq => ⟨step_turn hq, step_turn hq⟩⟩
  · rw [cpuStep_nmi hh hn, takeNmi_eq]
  · rw [cpuStep_irq hh hn ((irqTaken_eq_true_iff s).mpr ⟨hl, hf⟩), takeIrq_eq]
  · obtain ⟨i, t, hd, ht, hc⟩ := cpuStep_instr hh hn ((irqTaken_eq_false_iff s).mpr hm)
    exact ⟨i, [], t, hd, ht, hc⟩
  · simp [Hook.allows]
  · simp [State.setNmiLine]

/-! ### The PIA -/

/-- What the CPU keeps of a port, from `p` to `q`: the lines, their shadows and the `C2` flag; the `C1` flag is not raised. -/
structure PortKept (p q : Port) : Prop where
  c1 : q.c1 = p.c1
  c2 : q.c2 = p.c2
  prevC1 : q.prevC1 = p.prevC1
  prevC2 : q.prevC2 = p.prevC2
  flag2 : q.control.getLsbD 6 = p.control.getLsbD 6
  flag1 : q.control.getLsbD 7 = true → p.control.getLsbD 7 = true

/-- What the CPU keeps of the PIA (10_state.md R43–R46). -/
structure PiaKept (p q : Pia) : Prop where
  override : q.pb7Override = p.pb7Override
  portA : PortKept p.portA q.portA
  portB : PortKept p.portB q.portB

theorem PortKept.refl (p : Port) : PortKept p p := ⟨rfl, rfl, rfl, rfl, rfl, id⟩

theorem PortKept.trans {p q r : Port} (h : PortKept p q) (k : PortKept q r) : PortKept p r :=
  ⟨k.c1.trans h.c1, k.c2.trans h.c2, k.prevC1.trans h.prevC1, k.prevC2.trans h.prevC2, k.flag2.trans h.flag2,
    h.flag1 ∘ k.flag1⟩

theorem PiaKept.refl (p : Pia) : PiaKept p p := ⟨rfl, .refl _, .refl _⟩

theorem PiaKept.trans {p q r : Pia} (h : PiaKept p q) (k : PiaKept q r) : PiaKept p r :=
  ⟨k.override.trans h.override, h.portA.trans k.portA, h.portB.trans k.portB⟩

/-- A read of a data register clears bit 7 only (60_exceptions.md R330). -/
theorem clearIrq1_kept (p : Port) : PortKept p p.clearIrq1 :=
  { PortKept.refl p with
    flag2 := by simp [Port.clearIrq1]
    flag1 := by simp [Port.clearIrq1] }

/-- A write to a control register leaves bits 7 and 6 (10_state.md R43). -/
theorem controlWritten_kept (p : Port) (v : Byte) : PortKept p { p with control := controlWritten p.control v } :=
  { PortKept.refl p with
    flag2 := by simp [controlWritten]
    flag1 := by simp [controlWritten] }

theorem piaRead_kept (p : Pia) (o : Nat) : PiaKept p (p.read o).2 := by
  have clearedA : PiaKept p { p with portA := p.portA.clearIrq1, notifyPending := true } :=
    { PiaKept.refl p with portA := clearIrq1_kept _ }
  have clearedB : PiaKept p { p with portB := p.portB.clearIrq1, notifyPending := true } :=
    { PiaKept.refl p with portB := clearIrq1_kept _ }
  unfold Pia.read
  split
  · split
    · dsimp only
      split
      · exact clearedA
      · exact .refl p
    · exact .refl p
  · exact .refl p
  · split
    · dsimp only
      split
      · exact clearedB
      · exact .refl p
    · exact .refl p
  · exact .refl p

theorem piaWrite_kept (p : Pia) (o : Nat) (v : Byte) : PiaKept p (p.write o v).1 := by
  have data : ∀ (q : Port) (output ddr : Byte), PortKept q { q with output := output, ddr := ddr } :=
    fun q _ _ => { PortKept.refl q with }
  unfold Pia.write
  split
  · split <;> exact { PiaKept.refl p with portA := data _ _ _ }
  · exact { PiaKept.refl p with portA := controlWritten_kept _ v }
  · split <;> exact { PiaKept.refl p with portB := data _ _ _ }
  · exact { PiaKept.refl p with portB := controlWritten_kept _ v }

/-- What the CPU keeps of the PIA, every bus access keeps. -/
theorem piaKept_busProperty (p : Pia) : BusProperty fun t => PiaKept p t.pia where
  congr _ _ h _ e _ := e ▸ h
  read u a h := by
    obtain ⟨-, e⟩ | ⟨o, -, e⟩ | ⟨-, e⟩ := memRead_cases u a <;> rw [e]
    · exact h
    · exact h.trans (piaRead_kept u.pia o)
    · exact h
  write u a v h := by
    obtain ⟨-, e⟩ | ⟨o, -, e⟩ | ⟨-, e⟩ := memWrite_cases u a v <;> rw [e]
    · exact h
    · exact h.trans (piaWrite_kept u.pia o v)
    · exact h

/-- Settles O49: an instruction reaches the PIA by bus accesses only, and each keeps `PiaKept`. -/
theorem cpuCannotRaisePiaFlags : Obligations.CpuCannotRaisePiaFlags := by
  intro i s t h
  obtain ⟨override, portA, portB⟩ := (piaKept_busProperty s.pia).exec h (.refl s.pia)
  refine ⟨override, ?_⟩
  rintro p q (⟨rfl, rfl⟩ | ⟨rfl, rfl⟩)
  · exact ⟨portA.c1, portA.c2, portA.prevC1, portA.prevC2, portA.flag2, portA.flag1⟩
  · exact ⟨portB.c1, portB.c2, portB.prevC1, portB.prevC2, portB.flag2, portB.flag1⟩

end Sys2Proof.Machine
end


section
/-! SUPPORT. Which parts of the register file each instruction can write (10_state.md R21–R27), and that `cycles` only grows
(R30). -/

namespace Sys2Proof.Machine

/-! ### The register file -/

/-- The register file: what the rules R21–R27 speak of. -/
structure Registers where
  a : Byte
  x : Byte
  y : Byte
  sp : Byte
  flags : Flags

def State.registers (s : State) : Registers := ⟨s.a, s.x, s.y, s.sp, s.flags⟩

/-- A part of the register file that the rules R21–R27 give a list of writers. -/
inductive Cell where
  | a | x | y | sp | nz | c | v | d | i

/-- The cell holds in `q` what it holds in `p`. -/
def Cell.Same (r : Cell) (p q : Registers) : Prop :=
  match r with
  | .a => q.a = p.a
  | .x => q.x = p.x
  | .y => q.y = p.y
  | .sp => q.sp = p.sp
  | .nz => q.flags.n = p.flags.n ∧ q.flags.z = p.flags.z
  | .c => q.flags.c = p.flags.c
  | .v => q.flags.v = p.flags.v
  | .d => q.flags.d = p.flags.d
  | .i => q.flags.i = p.flags.i

theorem Cell.Same.refl (r : Cell) (p : Registers) : r.Same p p := by
  cases r
  case nz => exact ⟨rfl, rfl⟩
  all_goals rfl

theorem Cell.Same.trans {r : Cell} {p q o : Registers} (h : r.Same p q) (k : r.Same q o) : r.Same p o := by
  cases r
  case nz => exact ⟨k.1.trans h.1, k.2.trans h.2⟩
  all_goals exact Eq.trans k h

/-- From `s` to `t` only the cells of `ws` were written, and no cycle was taken back. -/
structure Writes (ws : List Cell) (s t : State) : Prop where
  same : ∀ r ∉ ws, r.Same s.registers t.registers
  cycles : s.cycles ≤ t.cycles

section
variable {ws : List Cell} {s t u : State}

theorem Writes.of_registers (h : t.registers = s.registers) (hc : t.cycles = s.cycles) : Writes ws s t :=
  ⟨fun r _ => h ▸ .refl r _, hc.ge⟩

/-- Each cell is on the list or holds what it held; the cells that a proof does not name are those it leaves in place. -/
theorem Writes.of_cells (a : .a ∈ ws ∨ t.a = s.a := by exact .inr rfl) (x : .x ∈ ws ∨ t.x = s.x := by exact .inr rfl)
    (y : .y ∈ ws ∨ t.y = s.y := by exact .inr rfl) (sp : .sp ∈ ws ∨ t.sp = s.sp := by exact .inr rfl)
    (nz : .nz ∈ ws ∨ t.flags.n = s.flags.n ∧ t.flags.z = s.flags.z := by exact .inr ⟨rfl, rfl⟩)
    (c : .c ∈ ws ∨ t.flags.c = s.flags.c := by exact .inr rfl) (v : .v ∈ ws ∨ t.flags.v = s.flags.v := by exact .inr rfl)
    (d : .d ∈ ws ∨ t.flags.d = s.flags.d := by exact .inr rfl) (i : .i ∈ ws ∨ t.flags.i = s.flags.i := by exact .inr rfl)
    (cycles : t.cycles = s.cycles := by rfl) : Writes ws s t := by
  refine ⟨fun r hr => ?_, cycles.ge⟩
  cases r
  exacts [a.resolve_left hr, x.resolve_left hr, y.resolve_left hr, sp.resolve_left hr, nz.resolve_left hr, c.resolve_left hr,
    v.resolve_left hr, d.resolve_left hr, i.resolve_left hr]

theorem Writes.refl : Writes ws s s := .of_registers rfl rfl

theorem Writes.trans (h : Writes ws s t) (k : Writes ws t u) : Writes ws s u :=
  ⟨fun r hr => (h.same r hr).trans (k.same r hr), h.cycles.trans k.cycles⟩

theorem Writes.charge (h : Writes ws s t) (n : Nat) : Writes ws s (t.charge n) :=
  ⟨h.same, h.cycles.trans (Nat.le_add_right _ n)⟩

theorem Writes.jump (h : Writes ws s t) (pc : Addr) : Writes ws s { t with pc := pc } := ⟨h.same, h.cycles⟩

/-! ### Setting flags and `S` -/

theorem setC_writes (hc : .c ∈ ws) (s : State) (b : Bool) : Writes ws s { s with flags := { s.flags with c := b } } :=
  .of_cells (c := .inl hc)

theorem setV_writes (hv : .v ∈ ws) (s : State) (b : Bool) : Writes ws s { s with flags := { s.flags with v := b } } :=
  .of_cells (v := .inl hv)

theorem setD_writes (hd : .d ∈ ws) (s : State) (b : Bool) : Writes ws s { s with flags := { s.flags with d := b } } :=
  .of_cells (d := .inl hd)

theorem setI_writes (hi : .i ∈ ws) (s : State) (b : Bool) : Writes ws s { s with flags := { s.flags with i := b } } :=
  .of_cells (i := .inl hi)

theorem setFlags_writes (hn : .nz ∈ ws) (hc : .c ∈ ws) (hv : .v ∈ ws) (hd : .d ∈ ws) (hi : .i ∈ ws) (s : State)
    (f : Flags) : Writes ws s { s with flags := f } :=
  .of_cells (nz := .inl hn) (c := .inl hc) (v := .inl hv) (d := .inl hd) (i := .inl hi)

theorem setSp_writes (h : .sp ∈ ws) (s : State) (v : Byte) : Writes ws s { s with sp := v } :=
  .of_cells (sp := .inl h)

/-! ### Operations over the Bus -/

theorem memRead_writes (s : State) (a : Addr) : Writes ws s (s.memRead a).2 := by
  rw [memRead_frame]
  exact .of_registers rfl rfl

theorem memWrite_writes (s : State) (a : Addr) (v : Byte) : Writes ws s (s.memWrite a v) := by
  rw [memWrite_frame]
  exact .of_registers rfl rfl

theorem push_writes (h : .sp ∈ ws) (s : State) (v : Byte) : Writes ws s (s.push v) :=
  (memWrite_writes s _ v).trans (setSp_writes h _ _)

theorem pull_writes (h : .sp ∈ ws) (s : State) : Writes ws s s.pull.2 :=
  (setSp_writes h s _).trans (memRead_writes _ _)

end

/-! ### Operations on registers and flags -/

/-- An operation on a byte writes the cells of `ws` at most. -/
def OpWrites (ws : List Cell) (f : State → Byte → State) : Prop := ∀ (s : State) (m : Byte), Writes ws s (f s m)

/-- Of the flags, an operation of the arithmetic unit writes those of `ws` at most. -/
def FlagWrites (ws : List Cell) (modify : Byte → Flags → Byte × Flags) : Prop :=
  ∀ (s : State) (m : Byte), Writes ws s { s with flags := (modify m s.flags).2 }

section
variable {ws : List Cell}

@[simp] theorem loadA_writes (ha : .a ∈ ws) (hn : .nz ∈ ws) : OpWrites ws State.loadA :=
  fun _ _ => .of_cells (a := .inl ha) (nz := .inl hn)

@[simp] theorem loadX_writes (hx : .x ∈ ws) (hn : .nz ∈ ws) : OpWrites ws State.loadX :=
  fun _ _ => .of_cells (x := .inl hx) (nz := .inl hn)

@[simp] theorem loadY_writes (hy : .y ∈ ws) (hn : .nz ∈ ws) : OpWrites ws State.loadY :=
  fun _ _ => .of_cells (y := .inl hy) (nz := .inl hn)

@[simp] theorem loadAX_writes (ha : .a ∈ ws) (hx : .x ∈ ws) (hn : .nz ∈ ws) : OpWrites ws State.loadAX :=
  fun _ _ => .of_cells (a := .inl ha) (x := .inl hx) (nz := .inl hn)

@[simp] theorem loadAXS_writes (ha : .a ∈ ws) (hx : .x ∈ ws) (hs : .sp ∈ ws) (hn : .nz ∈ ws) :
    OpWrites ws State.loadAXS :=
  fun _ _ => .of_cells (a := .inl ha) (x := .inl hx) (sp := .inl hs) (nz := .inl hn)

@[simp] theorem andA_writes (ha : .a ∈ ws) (hn : .nz ∈ ws) : OpWrites ws State.andA :=
  fun _ _ => loadA_writes ha hn _ _

@[simp] theorem orA_writes (ha : .a ∈ ws) (hn : .nz ∈ ws) : OpWrites ws State.orA :=
  fun _ _ => loadA_writes ha hn _ _

@[simp] theorem eorA_writes (ha : .a ∈ ws) (hn : .nz ∈ ws) : OpWrites ws State.eorA :=
  fun _ _ => loadA_writes ha hn _ _

@[simp] theorem adc_writes (ha : .a ∈ ws) (hn : .nz ∈ ws) (hc : .c ∈ ws) (hv : .v ∈ ws) : OpWrites ws State.adc :=
  fun _ _ => .of_cells (a := .inl ha) (nz := .inl hn) (c := .inl hc) (v := .inl hv)
    (d := .inr (adcResult_d ..)) (i := .inr (adcResult_i ..))

@[simp] theorem sbc_writes (ha : .a ∈ ws) (hn : .nz ∈ ws) (hc : .c ∈ ws) (hv : .v ∈ ws) : OpWrites ws State.sbc :=
  fun _ _ => .of_cells (a := .inl ha) (nz := .inl hn) (c := .inl hc) (v := .inl hv)
    (d := .inr (sbcResult_d ..)) (i := .inr (sbcResult_i ..))

@[simp] theorem arr_writes (ha : .a ∈ ws) (hn : .nz ∈ ws) (hc : .c ∈ ws) (hv : .v ∈ ws) : OpWrites ws State.arr :=
  fun _ _ => .of_cells (a := .inl ha) (nz := .inl hn) (c := .inl hc) (v := .inl hv)
    (d := .inr (arrResult_d ..)) (i := .inr (arrResult_i ..))

@[simp] theorem anc_writes (ha : .a ∈ ws) (hn : .nz ∈ ws) (hc : .c ∈ ws) : OpWrites ws State.anc :=
  fun _ _ => .of_cells (a := .inl ha) (nz := .inl hn) (c := .inl hc)

@[simp] theorem alr_writes (ha : .a ∈ ws) (hn : .nz ∈ ws) (hc : .c ∈ ws) : OpWrites ws State.alr :=
  fun _ _ => .of_cells (a := .inl ha) (nz := .inl hn) (c := .inl hc)

@[simp] theorem sbx_writes (hx : .x ∈ ws) (hn : .nz ∈ ws) (hc : .c ∈ ws) : OpWrites ws State.sbx :=
  fun _ _ => .of_cells (x := .inl hx) (nz := .inl hn) (c := .inl hc)

@[simp] theorem bitTest_writes (hn : .nz ∈ ws) (hv : .v ∈ ws) : OpWrites ws State.bitTest :=
  fun _ _ => .of_cells (nz := .inl hn) (v := .inl hv)

@[simp] theorem cmpA_writes (hn : .nz ∈ ws) (hc : .c ∈ ws) : OpWrites ws State.cmpA :=
  fun _ _ => .of_cells (nz := .inl hn) (c := .inl hc)

@[simp] theorem cmpX_writes (hn : .nz ∈ ws) (hc : .c ∈ ws) : OpWrites ws State.cmpX :=
  fun _ _ => .of_cells (nz := .inl hn) (c := .inl hc)

@[simp] theorem cmpY_writes (hn : .nz ∈ ws) (hc : .c ∈ ws) : OpWrites ws State.cmpY :=
  fun _ _ => .of_cells (nz := .inl hn) (c := .inl hc)

@[simp] theorem flagNZ_writes (hn : .nz ∈ ws) : OpWrites ws State.flagNZ :=
  fun _ _ => .of_cells (nz := .inl hn)

@[simp] theorem aslByte_writes (hc : .c ∈ ws) : FlagWrites ws aslByte := fun _ _ => setC_writes hc _ _

@[simp] theorem lsrByte_writes (hc : .c ∈ ws) : FlagWrites ws lsrByte := fun _ _ => setC_writes hc _ _

@[simp] theorem rolByte_writes (hc : .c ∈ ws) : FlagWrites ws rolByte := fun _ _ => setC_writes hc _ _

@[simp] theorem rorByte_writes (hc : .c ∈ ws) : FlagWrites ws rorByte := fun _ _ => setC_writes hc _ _

@[simp] theorem incByte_writes : FlagWrites ws incByte := fun _ _ => .refl

@[simp] theorem decByte_writes : FlagWrites ws decByte := fun _ _ => .refl

/-! ### Pointers and interrupts -/

theorem read16_writes (s : State) (a : Addr) : Writes ws s (s.read16 a).2 :=
  (memRead_writes s a).trans (memRead_writes _ _)

theorem readPointer_writes (s : State) (p : Addr) : Writes ws s (s.readPointer p).2 :=
  (memRead_writes s p).trans (memRead_writes _ _)

theorem interrupt_writes (hs : .sp ∈ ws) (hi : .i ∈ ws) (s : State) (vector : Addr) (b : Bool) :
    Writes ws s (s.interrupt vector b) :=
  have pushed := ((push_writes hs s _).trans (push_writes hs _ _)).trans (push_writes hs _ _)
  ((pushed.trans (setI_writes hi _ true)).trans (read16_writes _ vector)).jump _

theorem returnFromInterrupt_writes (hs : .sp ∈ ws) (hn : .nz ∈ ws) (hc : .c ∈ ws) (hv : .v ∈ ws) (hd : .d ∈ ws)
    (hi : .i ∈ ws) (s : State) : Writes ws s s.returnFromInterrupt :=
  have flags := (pull_writes hs s).trans (setFlags_writes hn hc hv hd hi _ _)
  ((flags.trans (pull_writes hs _)).trans (pull_writes hs _)).jump _

end

/-! ### The shapes of an instruction -/

/-- The meaning answers a next state, and writes the cells of `ws` at most. -/
def Effect (ws : List Cell) (s : State) (r : Result) : Prop := ∃ t : State, r = .next t ∧ Writes ws s t

section
variable {ws : List Cell} {s : State} {base : Nat} {e : Ea}

theorem impliedOp_effect {u : State} (h : Writes ws s u) : Effect ws s (impliedOp base u) := ⟨_, rfl, h.charge base⟩

theorem immOp_effect {d8 : Byte} {f : State → Byte → State} (hf : OpWrites ws f) : Effect ws s (immOp base d8 s f) :=
  ⟨_, rfl, (hf s d8).charge base⟩

theorem readOp_effect {penalty : Bool} {f : State → Byte → State} (hf : OpWrites ws f) (he : e.state = s) :
    Effect ws s (readOp base penalty e f) := by
  subst he
  exact ⟨_, rfl, ((memRead_writes _ _).trans (hf _ _)).charge _⟩

theorem writeOp_effect {v : Byte} (he : e.state = s) : Effect ws s (writeOp base e v) := by
  subst he
  exact ⟨_, rfl, (memWrite_writes _ _ _).charge base⟩

theorem rmwOp_effect {modify : Byte → Flags → Byte × Flags} {after : State → Byte → State} (hm : FlagWrites ws modify)
    (hf : OpWrites ws after) (he : e.state = s) : Effect ws s (rmwOp base e modify after) := by
  subst he
  exact ⟨_, rfl, ((((memRead_writes _ _).trans (hm _ _)).trans (memWrite_writes _ _ _)).trans (hf _ _)).charge base⟩

theorem accOp_effect {modify : Byte → Flags → Byte × Flags} (hm : FlagWrites ws modify) (ha : .a ∈ ws) (hn : .nz ∈ ws) :
    Effect ws s (accOp base s modify) :=
  ⟨_, rfl, ((hm s s.a).trans (loadA_writes ha hn _ (modify s.a s.flags).1)).charge base⟩

theorem skipOp_effect {penalty : Bool} (he : e.state = s) : Effect ws s (skipOp base penalty e) := by
  subst he
  exact ⟨_, rfl, Writes.refl.charge _⟩

theorem branchOp_effect {cond : Bool} {d8 : Byte} : Effect ws s (branchOp cond d8 s) := by
  cases cond
  · exact ⟨_, rfl, Writes.refl.charge 2⟩
  · exact ⟨_, rfl, (Writes.refl.jump _).charge _⟩

theorem jumpOp_effect (he : Writes ws s e.state) : Effect ws s (jumpOp base e) := ⟨_, rfl, (he.jump e.addr).charge base⟩

end

/-! ### Every instruction -/

/-- The cells a mnemonic writes: the lists of R21–R24 and the table of R27, read by instruction. -/
def cellsWritten (m : Mnemonic) : List Cell :=
  match m with
  | .lda | .txa | .tya | .and | .ora | .eor => [.a, .nz]
  | .ldx | .tax | .tsx | .inx | .dex => [.x, .nz]
  | .ldy | .tay | .iny | .dey => [.y, .nz]
  | .lax => [.a, .x, .nz]
  | .las => [.a, .x, .sp, .nz]
  | .adc | .sbc | .rra | .isc | .arr | .usbc => [.a, .nz, .c, .v]
  | .slo | .rla | .sre | .anc | .alr => [.a, .nz, .c]
  | .sbx => [.x, .nz, .c]
  | .cmp | .cpx | .cpy | .asl | .lsr | .rol | .ror | .dcp => [.nz, .c]
  | .inc | .dec => [.nz]
  | .bit => [.nz, .v]
  | .clc | .sec => [.c]
  | .clv => [.v]
  | .cld | .sed => [.d]
  | .cli | .sei => [.i]
  | .plp | .rti => [.sp, .nz, .c, .v, .d, .i]
  | .pla => [.a, .sp, .nz]
  | .brk => [.sp, .i]
  | .txs | .pha | .php | .jsr | .rts => [.sp]
  | _ => []

/-- The cells an instruction writes: an accumulator form of a shift writes `A` too. -/
def writtenCells (i : Instr) : List Cell :=
  match i.mode with
  | .acc => .a :: cellsWritten i.mnemonic
  | _ => cellsWritten i.mnemonic

/-! The effective address of a data access is found without a side effect: its pointers lie in the zero page. -/

@[simp] theorem eaZp_state (d8 : Byte) (s : State) : (eaZp d8 s).state = s := rfl
@[simp] theorem eaZpx_state (d8 : Byte) (s : State) : (eaZpx d8 s).state = s := rfl
@[simp] theorem eaZpy_state (d8 : Byte) (s : State) : (eaZpy d8 s).state = s := rfl
@[simp] theorem eaAbs_state (a16 : Addr) (s : State) : (eaAbs a16 s).state = s := rfl
@[simp] theorem eaAbx_state (a16 : Addr) (s : State) : (eaAbx a16 s).state = s := rfl
@[simp] theorem eaAby_state (a16 : Addr) (s : State) : (eaAby a16 s).state = s := rfl
@[simp] theorem eaIzx_state (d8 : Byte) (s : State) : (eaIzx d8 s).state = s := by rw [eaIzx, readPointer_zeroPage]
@[simp] theorem eaIzy_state (d8 : Byte) (s : State) : (eaIzy d8 s).state = s := by
  rw [eaIzy, readPointer_zeroPage]
  rfl

/-- Every instruction writes the cells of its mnemonic at most: by its shape, and what its operation writes. -/
theorem exec_effect (i : Instr) (s : State) : Effect (writtenCells i) s (exec i s) := by
  cases i
  -- the row of each constructor turns `writtenCells` into a list
  all_goals simp [writtenCells, Instr.mode, Instr.mnemonic, cellsWritten]
  case oraImm _ | andImm _ | eorImm _ | ldaImm _ =>
    exact immOp_effect (ws := [.a, .nz]) (by simp)
  case anc0B _ | anc2B _ | alr _ =>
    exact immOp_effect (ws := [.a, .nz, .c]) (by simp)
  case adcImm _ | arr _ | sbcImm _ | usbc _ =>
    exact immOp_effect (ws := [.a, .nz, .c, .v]) (by simp)
  case ldyImm _ =>
    exact immOp_effect (ws := [.y, .nz]) (by simp)
  case ldxImm _ =>
    exact immOp_effect (ws := [.x, .nz]) (by simp)
  case cpyImm _ | cmpImm _ | cpxImm _ =>
    exact immOp_effect (ws := [.nz, .c]) (by simp)
  case sbx _ =>
    exact immOp_effect (ws := [.x, .nz, .c]) (by simp)
  case oraIzx _ | oraZp _ | oraAbs _ | oraIzy _ | oraZpx _ | oraAby _ | oraAbx _ | andIzx _ | andZp _ | andAbs _ |
      andIzy _ | andZpx _ | andAby _ | andAbx _ | eorIzx _ | eorZp _ | eorAbs _ | eorIzy _ | eorZpx _ | eorAby _ |
      eorAbx _ | ldaIzx _ | ldaZp _ | ldaAbs _ | ldaIzy _ | ldaZpx _ | ldaAby _ | ldaAbx _ =>
    exact readOp_effect (ws := [.a, .nz]) (by simp) (by simp)
  case bitZp _ | bitAbs _ =>
    exact readOp_effect (ws := [.nz, .v]) (by simp) (by simp)
  case adcIzx _ | adcZp _ | adcAbs _ | adcIzy _ | adcZpx _ | adcAby _ | adcAbx _ | sbcIzx _ | sbcZp _ | sbcAbs _ |
      sbcIzy _ | sbcZpx _ | sbcAby _ | sbcAbx _ =>
    exact readOp_effect (ws := [.a, .nz, .c, .v]) (by simp) (by simp)
  case laxIzx _ | laxZp _ | laxAbs _ | laxIzy _ | laxZpy _ | laxAby _ =>
    exact readOp_effect (ws := [.a, .x, .nz]) (by simp) (by simp)
  case ldyZp _ | ldyAbs _ | ldyZpx _ | ldyAbx _ =>
    exact readOp_effect (ws := [.y, .nz]) (by simp) (by simp)
  case ldxZp _ | ldxAbs _ | ldxZpy _ | ldxAby _ =>
    exact readOp_effect (ws := [.x, .nz]) (by simp) (by simp)
  case las _ =>
    exact readOp_effect (ws := [.a, .x, .sp, .nz]) (by simp) (by simp)
  case cmpIzx _ | cmpZp _ | cmpAbs _ | cmpIzy _ | cmpZpx _ | cmpAby _ | cmpAbx _ | cpyZp _ | cpyAbs _ | cpxZp _ |
      cpxAbs _ =>
    exact readOp_effect (ws := [.nz, .c]) (by simp) (by simp)
  case staIzx _ | saxIzx _ | styZp _ | staZp _ | stxZp _ | saxZp _ | styAbs _ | staAbs _ | stxAbs _ | saxAbs _ |
      staIzy _ | styZpx _ | staZpx _ | stxZpy _ | saxZpy _ | staAby _ | staAbx _ =>
    exact writeOp_effect (by simp)
  case sloIzx _ | sloZp _ | sloAbs _ | sloIzy _ | sloZpx _ | sloAby _ | sloAbx _ | rlaIzx _ | rlaZp _ | rlaAbs _ |
      rlaIzy _ | rlaZpx _ | rlaAby _ | rlaAbx _ | sreIzx _ | sreZp _ | sreAbs _ | sreIzy _ | sreZpx _ | sreAby _ |
      sreAbx _ =>
    exact rmwOp_effect (ws := [.a, .nz, .c]) (by simp) (by simp) (by simp)
  case aslZp _ | aslAbs _ | aslZpx _ | aslAbx _ | rolZp _ | rolAbs _ | rolZpx _ | rolAbx _ | lsrZp _ | lsrAbs _ |
      lsrZpx _ | lsrAbx _ | rorZp _ | rorAbs _ | rorZpx _ | rorAbx _ | dcpIzx _ | dcpZp _ | dcpAbs _ | dcpIzy _ |
      dcpZpx _ | dcpAby _ | dcpAbx _ =>
    exact rmwOp_effect (ws := [.nz, .c]) (by simp) (by simp) (by simp)
  case rraIzx _ | rraZp _ | rraAbs _ | rraIzy _ | rraZpx _ | rraAby _ | rraAbx _ | iscIzx _ | iscZp _ | iscAbs _ |
      iscIzy _ | iscZpx _ | iscAby _ | iscAbx _ =>
    exact rmwOp_effect (ws := [.a, .nz, .c, .v]) (by simp) (by simp) (by simp)
  case decZp _ | decAbs _ | decZpx _ | decAbx _ | incZp _ | incAbs _ | incZpx _ | incAbx _ =>
    exact rmwOp_effect (ws := [.nz]) (by simp) (by simp) (by simp)
  case aslAcc | rolAcc | lsrAcc | rorAcc =>
    exact accOp_effect (ws := [.a, .nz, .c]) (by simp) (by simp) (by simp)
  case nop04 _ | nop0C _ | nop14 _ | nop1C _ | nop34 _ | nop3C _ | nop44 _ | nop54 _ | nop5C _ | nop64 _ | nop74 _ |
      nop7C _ | nop93 _ | nop9B _ | nop9C _ | nop9E _ | nop9F _ | nopD4 _ | nopDC _ | nopF4 _ | nopFC _ =>
    exact skipOp_effect (by simp)
  case bpl _ | bmi _ | bvc _ | bvs _ | bcc _ | bcs _ | bne _ | beq _ =>
    exact branchOp_effect
  case jmpAbs _ =>
    exact jumpOp_effect .refl
  case jmpInd a16 =>
    exact jumpOp_effect (by exact readPointer_writes s a16)
  case txa | tya =>
    exact impliedOp_effect (ws := [.a, .nz]) (loadA_writes (by simp) (by simp) s _)
  case tax | tsx | inx | dex =>
    exact impliedOp_effect (ws := [.x, .nz]) (loadX_writes (by simp) (by simp) s _)
  case tay | iny | dey =>
    exact impliedOp_effect (ws := [.y, .nz]) (loadY_writes (by simp) (by simp) s _)
  case clc | sec =>
    exact impliedOp_effect (ws := [.c]) (setC_writes (by simp) s _)
  case clv =>
    exact impliedOp_effect (ws := [.v]) (setV_writes (by simp) s _)
  case cld | sed =>
    exact impliedOp_effect (ws := [.d]) (setD_writes (by simp) s _)
  case cli | sei =>
    exact impliedOp_effect (ws := [.i]) (setI_writes (by simp) s _)
  case txs =>
    exact impliedOp_effect (ws := [.sp]) (setSp_writes (by simp) s _)
  case pha | php =>
    exact impliedOp_effect (ws := [.sp]) (push_writes (by simp) s _)
  case pla =>
    have pulled := pull_writes (ws := [.a, .sp, .nz]) (by simp) s
    exact ⟨_, rfl, (pulled.trans (loadA_writes (by simp) (by simp) _ _)).charge 4⟩
  case plp =>
    have pulled := pull_writes (ws := [.sp, .nz, .c, .v, .d, .i]) (by simp) s
    exact ⟨_, rfl, (pulled.trans (setFlags_writes (by simp) (by simp) (by simp) (by simp) (by simp) _ _)).charge 4⟩
  case jsr a16 =>
    have pushed := (push_writes (ws := [.sp]) (by simp) s (hi (s.pc - 1))).trans (push_writes (by simp) _ (lo (s.pc - 1)))
    exact ⟨_, rfl, (pushed.jump a16).charge 6⟩
  case rts =>
    have pulled := (pull_writes (ws := [.sp]) (by simp) s).trans (pull_writes (by simp) _)
    exact ⟨_, rfl, (pulled.jump _).charge 6⟩
  case rti =>
    have returned := returnFromInterrupt_writes (ws := [.sp, .nz, .c, .v, .d, .i])
      (by simp) (by simp) (by simp) (by simp) (by simp) (by simp) s
    exact ⟨_, rfl, returned.charge 6⟩
  case brk =>
    have entered := interrupt_writes (ws := [.sp, .i]) (by simp) (by simp) { s with pc := s.pc + 1 } irqVector true
    exact ⟨_, rfl, ((Writes.refl.jump _).trans entered).charge 7⟩
  all_goals exact impliedOp_effect .refl

theorem exec_writes {i : Instr} {s t : State} (h : exec i s = .next t) : Writes (writtenCells i) s t := by
  obtain ⟨u, hu, hw⟩ := exec_effect i s
  cases h.symm.trans hu
  exact hw

/-! ### The lists of writers -/

/-- The list of writers that R21–R24 and R27 give for a cell. -/
def writersOf (r : Cell) : List Mnemonic :=
  match r with
  | .a => writersOfA
  | .x => writersOfX
  | .y => writersOfY
  | .sp => writersOfS
  | .nz => writersOfNZ
  | .c => writersOfC
  | .v => writersOfV
  | .d => writersOfD
  | .i => writersOfI

/-- A mnemonic stands on the list of every cell it writes. -/
theorem mem_writersOf (m : Mnemonic) : ∀ r ∈ cellsWritten m, m ∈ writersOf r := by
  cases m <;> decide

theorem notMem_writtenCells {i : Instr} {r : Cell} (h : i.mnemonic ∉ writersOf r) (hr : r = .a → i.mode ≠ .acc) :
    r ∉ writtenCells i := by
  have listed : r ∉ cellsWritten i.mnemonic := fun hm => h (mem_writersOf _ r hm)
  unfold writtenCells
  split
  · rename_i hacc
    rintro (_ | ⟨_, hm⟩)
    · exact hr rfl hacc
    · exact listed hm
  · exact listed

/-- A cell whose list an instruction is not on keeps what it holds; the accumulator forms write `A` besides (R21). -/
theorem exec_same {i : Instr} {s t : State} (h : exec i s = .next t) (r : Cell) (hm : i.mnemonic ∉ writersOf r)
    (hr : r = .a → i.mode ≠ .acc) : r.Same s.registers t.registers :=
  (exec_writes h).same r (notMem_writtenCells hm hr)

/-- Settles O32: each register is a cell, and `exec_same` speaks of every cell. -/
theorem registerFrame : Obligations.RegisterFrame := fun _ _ _ h =>
  ⟨fun hm hacc => exec_same h .a hm fun _ => hacc, fun hm => exec_same h .x hm nofun, fun hm => exec_same h .y hm nofun,
    fun hm => exec_same h .sp hm nofun⟩

/-- A mnemonic that is on no list of the table of R27. -/
def Flagless (m : Mnemonic) : Prop :=
  m ∉ writersOfNZ ∧ m ∉ writersOfC ∧ m ∉ writersOfV ∧ m ∉ writersOfD ∧ m ∉ writersOfI

/-- The list of R27 of the instructions that write no flag. -/
theorem flagless_of_listed : ∀ m ∈ [Mnemonic.sta, .stx, .sty, .txs, .pha, .php, .jmp, .jsr, .rts, .sax, .nop], Flagless m := by
  unfold Flagless
  decide

/-- The relative mode is that of the branches, which write no flag. -/
theorem flagless_of_rel {i : Instr} (h : i.mode = .rel) : Flagless i.mnemonic := by
  have branches : ∀ rows ∈ opcodeMap, ∀ row ∈ rows, row.mode ≠ .rel ∨ Flagless row.mnemonic := by
    unfold Flagless
    decide
  obtain ⟨rows, hrows, hrow⟩ := rowOf_mem i.opcode
  exact (branches rows hrows _ hrow).resolve_left (not_not_intro h)

theorem exec_flags_of_flagless {i : Instr} {s t : State} (h : exec i s = .next t) (hm : Flagless i.mnemonic) :
    t.flags = s.flags := by
  obtain ⟨hn, hc, hv, hd, hi⟩ := hm
  obtain ⟨n, z⟩ : t.flags.n = s.flags.n ∧ t.flags.z = s.flags.z := exec_same h .nz hn nofun
  have c : t.flags.c = s.flags.c := exec_same h .c hc nofun
  have v : t.flags.v = s.flags.v := exec_same h .v hv nofun
  have d : t.flags.d = s.flags.d := exec_same h .d hd nofun
  have i : t.flags.i = s.flags.i := exec_same h .i hi nofun
  calc t.flags = ⟨t.flags.n, t.flags.v, t.flags.d, t.flags.i, t.flags.z, t.flags.c⟩ := rfl
    _ = s.flags := by rw [n, z, c, v, d, i]

/-- Settles O33: `exec_same` for each flag, and for no flag at all (`exec_flags_of_flagless`). -/
theorem flagFrame : Obligations.FlagFrame := by
  intro i s t h
  refine ⟨fun hm => exec_same h .nz hm nofun, fun hm => exec_same h .c hm nofun, fun hm => exec_same h .v hm nofun,
    fun hm => exec_same h .d hm nofun, fun hm => exec_same h .i hm nofun, fun hm => exec_flags_of_flagless h ?_⟩
  rcases hm with hm | hm
  · exact flagless_of_listed _ (List.contains_iff_mem.mp hm)
  · exact flagless_of_rel hm

/-! ### The cycle counter -/

theorem cpuStep_cycles {s t : State} {r : CpuResult} (h : cpuStep s = .next (r, t)) : s.cycles ≤ t.cycles := by
  cases hh : s.hook.allows s.pc
  · cases h.symm.trans (cpuStep_halted hh)
    exact le_rfl
  cases hn : s.inputs.nmiPending
  · cases hi : s.irqTaken
    · obtain ⟨i, u, -, hu, hc⟩ := cpuStep_instr hh hn hi
      cases h.symm.trans hc
      have fetched : s.fetch.2.cycles = s.cycles := by rw [fetch_eq]
      exact fetched ▸ (exec_writes hu).cycles
    · cases h.symm.trans (cpuStep_irq hh hn hi)
      rw [takeIrq_eq]
      exact Nat.le_add_right _ 7
  · cases h.symm.trans (cpuStep_nmi hh hn)
    rw [takeNmi_eq]
    exact Nat.le_add_right _ 7

theorem cpuStep_wired_cycles {s t : State} {r : CpuResult} (h : cpuStep s.wireInputs = .next (r, t)) :
    s.cycles ≤ t.cycles := by
  have wired : s.wireInputs.cycles = s.cycles := by rw [wireInputs_eq]
  exact wired ▸ cpuStep_cycles h

theorem flush_cycles (s : State) : s.flush.cycles = s.cycles := by
  rw [(flush_eq s).1]

theorem stepOne_cycles {s t : State} (h : stepOne s = .next t) : s.cycles ≤ t.cycles := by
  cases hf : s.faulted
  · obtain ⟨r, u, hu, ht⟩ := stepOne_exists s hf
    cases h.symm.trans ht
    have flushed : s.cycles ≤ ({ u with hook := s.hook } : State).flush.cycles := by
      rw [flush_cycles]
      exact (cpuStep_wired_cycles hu :)
    dsimp only
    split <;> exact flushed
  · simp only [stepOne, hf, if_true] at h
    cases h
    exact le_rfl

/-- Of the host's actions only `LoadState` sets `cycles` back (10_state.md R30). -/
theorem hostAct_cycles {act : HostAction} {s t : State} (h : hostAct act s = .next t)
    (ha : ∀ snap now, act ≠ .loadState snap now) : s.cycles ≤ t.cycles := by
  cases act
  case stepOne => exact stepOne_cycles h
  case loadState snap now => exact absurd rfl (ha snap now)
  all_goals cases h
  case reset =>
    rw [State.machineReset, cpuReset_eq]
  case hostRead start len =>
    obtain ⟨p, h⟩ := hostReadBytes_eq start len s
    simp only [hostRead, h]
    exact le_rfl
  case hostWrite addr val =>
    unfold hostWrite
    split
    · exact (memWrite_cycles s _ _).ge
    · exact le_rfl
  all_goals exact le_rfl

/-- Settles O41, by the cases of a step: only CPU steps and `LoadState` touch `cycles`. -/
theorem cyclesNeverDecrease : Obligations.CyclesNeverDecrease := by
  intro s t noLoad h
  refine step_cases (fun t => s.cycles ≤ t.cycles) h ?idle ?ended ?cpu ?device ?host ?irq ?nmi ?measured
  case idle => exact fun _ _ => le_rfl
  case ended =>
    intro _
    rw [State.endQuantum, flush_cycles]
  case cpu =>
    intro rest n v _ _ hv
    obtain ⟨r, u, hu, hc⟩ := cpuTurn_exists { s with agenda := rest, quantumLeft := n }
    cases hv.symm.trans hc
    obtain ⟨_, _, _, _, e, -⟩ := afterCpuStep_eq r u
    rw [e]
    exact (cpuStep_wired_cycles hu :)
  case device =>
    intro act rest _ _
    rw [flush_cycles]
    cases act <;> exact le_rfl
  case host =>
    intro act rest u hq ha hu
    rw [flush_cycles]
    exact (hostAct_cycles hu fun snap now he => noLoad hq snap now rest (by rw [ha, he]) :)
  case irq => intro level rest _; split <;> exact le_rfl
  case nmi => intro level rest _; split <;> exact le_rfl
  case measured => exact fun _ _ _ => le_rfl

end Sys2Proof.Machine
end


section
/-! SUPPORT. When a Bus can be constructed (20_memory.md R61), the memory map of the Machine (R70), and the step of a running
machine (60_exceptions.md R361). -/

namespace Sys2Proof.Machine

/-! ### Construction of a Bus -/

theorem validRange_iff (e : BusEntry) : e.validRange = true ↔ e.start ≤ e.stop ∧ e.stop ≤ 0xFFFF := by
  simp [BusEntry.validRange]

theorem overlaps_eq_false_iff (e f : BusEntry) : e.overlaps f = false ↔ ¬ (e.start ≤ f.stop ∧ f.start ≤ e.stop) := by
  rw [← Bool.not_eq_true, BusEntry.overlaps, Bool.and_eq_true, decide_eq_true_eq, decide_eq_true_eq]

theorem busEntriesValid_iff (entries : List BusEntry) : busEntriesValid entries = true ↔
    (∀ e ∈ entries, e.validRange = true) ∧ entries.Pairwise (fun e f => e.overlaps f = false) := by
  induction entries with
  | nil => simp [busEntriesValid]
  | cons e rest ih => simp [busEntriesValid, ih, and_assoc, and_left_comm]

/-- The check of the model is the condition of R61, which compares entries by their places in the list. -/
theorem busEntriesValid_iff_ranges (entries : List BusEntry) : busEntriesValid entries = true ↔
    (∀ e ∈ entries, e.start ≤ e.stop ∧ e.stop ≤ 0xFFFF) ∧
    ∀ (j k : Nat) (e f : BusEntry), j < k → entries[j]? = some e → entries[k]? = some f →
      ¬ (e.start ≤ f.stop ∧ f.start ≤ e.stop) := by
  simp only [busEntriesValid_iff, validRange_iff, List.pairwise_iff_getElem, overlaps_eq_false_iff,
    List.getElem?_eq_some_iff]
  refine and_congr_right' ⟨?_, fun apart j k hj hk hjk => apart j k _ _ hjk ⟨hj, rfl⟩ ⟨hk, rfl⟩⟩
  rintro apart j k _ _ hjk ⟨hj, rfl⟩ ⟨hk, rfl⟩
  exact apart j k hj hk hjk

theorem busConstruct_eq_ok_iff (entries : List BusEntry) :
    busConstruct entries = .ok entries ↔ busEntriesValid entries = true := by
  cases h : busEntriesValid entries <;> simp [busConstruct, h]

theorem busConstruct_eq_error (entries : List BusEntry) (h : ¬ busEntriesValid entries = true) :
    busConstruct entries = .error .configError := if_neg h

/-- Settles O52: the check decides the condition of R61, and two entries with a common address overlap. -/
theorem busConstruction : Obligations.BusConstruction := by
  refine ⟨fun entries => ?_, busConstruct_machineBus, fun entries h a j k e f hj hk he1 he2 hf1 hf2 => ?_⟩
  · rw [← busEntriesValid_iff_ranges]
    exact ⟨(busConstruct_eq_ok_iff entries).mpr, busConstruct_eq_error entries⟩
  · obtain ⟨-, apart⟩ := (busEntriesValid_iff_ranges entries).mp ((busConstruct_eq_ok_iff entries).mp h)
    obtain hlt | heq | hgt := Nat.lt_trichotomy j k
    · exact absurd ⟨he1.trans hf2, hf1.trans he2⟩ (apart j k e f hlt hj hk)
    · exact heq
    · exact absurd ⟨hf1.trans he2, he1.trans hf2⟩ (apart k j f e hgt hk hj)

/-! ### The memory map -/

theorem isRam_iff (a : Nat) : isRam a = true ↔ a ≤ 0x0FFF ∨ 0xE000 ≤ a ∧ a ≤ 0xEFFF := by
  simp [isRam]

/-- The ROM reaches to the end of the address space. -/
theorem isRom_iff (a : Addr) : isRom a.toNat = true ↔ 0xFF00 ≤ a.toNat := by
  have := a.isLt
  simp only [isRom, Bool.and_eq_true, decide_eq_true_eq]
  omega

theorem isStored_iff (a : Addr) :
    isStored a.toNat = true ↔ (a.toNat ≤ 0x0FFF ∨ 0xE000 ≤ a.toNat ∧ a.toNat ≤ 0xEFFF) ∨ 0xFF00 ≤ a.toNat := by
  rw [isStored, Bool.or_eq_true, isRam_iff, isRom_iff]

/-- Settles O53: the reads and the writes of each part of the map; a write to RAM is read back from the memory it left. -/
theorem memoryMap : Obligations.MemoryMap := by
  intro s a v ram rom pia
  have hram : isRam a.toNat = true ↔ ram := isRam_iff a.toNat
  have hstored : isStored a.toNat = true ↔ ram ∨ rom := isStored_iff a
  refine ⟨fun h => memRead_stored s a (hstored.mpr h), fun o ho ha => memRead_pia s a o ha (Nat.lt_succ_of_le ho),
    fun hr ho hp => memRead_unmapped s a ?_ hp, fun h => ?_, fun o ho ha => memWrite_pia s a v o ha (Nat.lt_succ_of_le ho),
    fun hr hp => memWrite_dropped s a v ?_ hp⟩
  · exact Bool.eq_false_iff.mpr fun h => (hstored.mp h).elim hr ho
  · have written : s.memWrite a v = { s with mem := s.mem.write a.toNat v } := memWrite_ram s a v (hram.mpr h)
    refine ⟨written, ?_, memWrite_read_other s a v⟩
    rw [memRead_stored _ a (hstored.mpr (.inl h)), written, Memory.read_write_same]
  · exact Bool.eq_false_iff.mpr fun h => hr (hram.mp h)

/-! ### A step of a running machine -/

/-- Settles O35: a step is the CPU step of the quantum (`step_inQuantum`), which here is the instruction fetched. -/
theorem stepRunsDecodedInstruction : Obligations.StepRunsDecodedInstruction := by
  refine ⟨fun s q w i rest hs hq hw hh hn hm hd _ => ?_, fun s q u r hs hq hc hr => ?_, fun s h => ?_, wireInputs_alone⟩
  · subst hw
    obtain ⟨j, t, hj, ht, hc⟩ := cpuStep_instr hh hn ((irqTaken_eq_false_iff _).mpr hm)
    cases hd.symm.trans hj
    exact ⟨t, ht, (step_inQuantum hs hq).trans (cpuTurn_next hc nofun)⟩
  · exact (step_inQuantum hs hq).trans (cpuTurn_next hc hr)
  · rw [wireInputs_eq, wireInputs_machine s h]

end Sys2Proof.Machine
end


section
/-! SUPPORT. The addresses each instruction stores to, and what it leaves of the memory and of the output history (20_memory.md R84,
R85). -/

namespace Sys2Proof.Machine

/-! ### Storing to a list of addresses -/

/-- From `s` to `t` nothing was stored but to the addresses `ps`. -/
structure Stores (ps : List Addr) (s t : State) : Prop where
  other : ∀ b : Nat, (∀ p ∈ ps, p.toNat ≠ b) → t.mem.read b = s.mem.read b
  mem : ps = [] → t.mem = s.mem
  output : (∀ p ∈ ps, isPia p.toNat = false) → t.output = s.output

section
variable {ps qs : List Addr} {s t u : State}

theorem Stores.nothing (h : t.mem = s.mem ∧ t.output = s.output) : Stores [] s t :=
  ⟨fun _ _ => by rw [h.1], fun _ => h.1, fun _ => h.2⟩

theorem Stores.trans (h : Stores ps s t) (k : Stores qs t u) : Stores (ps ++ qs) s u where
  other b hb := (k.other b fun p hp => hb p (List.mem_append_right ps hp)).trans
    (h.other b fun p hp => hb p (List.mem_append_left qs hp))
  mem he := by
    obtain ⟨hp, hq⟩ := List.append_eq_nil_iff.mp he
    exact (k.mem hq).trans (h.mem hp)
  output ho := (k.output fun p hp => ho p (List.mem_append_right ps hp)).trans
    (h.output fun p hp => ho p (List.mem_append_left qs hp))

/-- Work before and after that leaves the memory and the output history alone does not count. -/
theorem Stores.of_same {s' t' : State} (h : Stores ps s' t') (hs : s'.mem = s.mem ∧ s'.output = s.output)
    (ht : t.mem = t'.mem ∧ t.output = t'.output) : Stores ps s t where
  other b hb := by rw [ht.1, h.other b hb, hs.1]
  mem he := by rw [ht.1, h.mem he, hs.1]
  output ho := by rw [ht.2, h.output ho, hs.2]

end

theorem memWrite_output (s : State) (a : Addr) (v : Byte) (h : isPia a.toNat = false) :
    (s.memWrite a v).output = s.output := by
  obtain ⟨-, e⟩ | ⟨o, ⟨ha, ho⟩, -⟩ | ⟨-, e⟩ := memWrite_cases s a v
  · rw [e]
  · simp only [isPia, Bool.and_eq_false_iff, decide_eq_false_iff_not] at h
    omega
  · rw [e]

theorem memWrite_stores (s : State) (a : Addr) (v : Byte) : Stores [a] s (s.memWrite a v) where
  other b hb := memWrite_read_other s a v b (hb a List.mem_cons_self).symm
  mem := nofun
  output ho := memWrite_output s a v (ho a List.mem_cons_self)

theorem push_stores (s : State) (v : Byte) : Stores [stackAddr s.sp] s (s.push v) :=
  (memWrite_stores s _ v).of_same ⟨rfl, rfl⟩ ⟨rfl, rfl⟩

theorem push_sp (s : State) (v : Byte) : (s.push v).sp = s.sp - 1 := by rw [push_eq]

theorem push_push_stores (s : State) (v w : Byte) :
    Stores [stackAddr s.sp, stackAddr (s.sp - 1)] s ((s.push v).push w) := by
  have second := push_stores (s.push v) w
  rw [push_sp] at second
  exact (push_stores s v).trans second

theorem pull_stores (s : State) : Stores [] s s.pull.2 := .nothing (by rw [pull_eq]; exact ⟨rfl, rfl⟩)

theorem interrupt_stores (s : State) (vector : Addr) (b : Bool) :
    Stores [stackAddr s.sp, stackAddr (s.sp - 1), stackAddr (s.sp - 1 - 1)] s (s.interrupt vector b) := by
  have third := push_stores ((s.push (hi s.pc)).push (lo s.pc)) (statusByte b s.flags)
  rw [push_sp, push_sp] at third
  refine ((push_push_stores s _ _).trans third).of_same ⟨rfl, rfl⟩ ?_
  simp [State.interrupt]

/-! ### The shapes of an instruction -/

theorem KeepsBus.same {f : State → Byte → State} (hf : KeepsBus f) (s : State) (m : Byte) :
    (f s m).mem = s.mem ∧ (f s m).output = s.output := (hf s m).imp_right And.right

theorem memRead_same (s : State) (a : Addr) : (s.memRead a).2.mem = s.mem ∧ (s.memRead a).2.output = s.output :=
  ⟨memRead_mem s a, memRead_output s a⟩

/-- The meaning answers a next state, and stores nothing but to the addresses `ps`. -/
def Stored (ps : List Addr) (s : State) (r : Result) : Prop := ∃ t : State, r = .next t ∧ Stores ps s t

section
variable {ps : List Addr} {s : State} {base : Nat} {e : Ea} {penalty : Bool} {f : State → Byte → State}

theorem impliedOp_stored {u : State} (h : Stores ps s u) : Stored ps s (impliedOp base u) :=
  ⟨_, rfl, h.of_same ⟨rfl, rfl⟩ ⟨rfl, rfl⟩⟩

theorem immOp_stored {d8 : Byte} (hf : KeepsBus f) : Stored [] s (immOp base d8 s f) :=
  ⟨_, rfl, .nothing (hf.same s d8)⟩

theorem accOp_stored {modify : Byte → Flags → Byte × Flags} : Stored [] s (accOp base s modify) :=
  ⟨_, rfl, .nothing ⟨rfl, rfl⟩⟩

theorem readOp_stored (hf : KeepsBus f) (he : e.state = s) : Stored [] s (readOp base penalty e f) := by
  subst he
  have read : Stores [] e.state (e.state.memRead e.addr).2 := .nothing (memRead_same _ _)
  exact ⟨_, rfl, read.of_same ⟨rfl, rfl⟩ (hf.same _ _)⟩

theorem writeOp_stored {v : Byte} (he : e.state = s) : Stored [e.addr] s (writeOp base e v) := by
  subst he
  exact ⟨_, rfl, (memWrite_stores _ _ v).of_same ⟨rfl, rfl⟩ ⟨rfl, rfl⟩⟩

theorem rmwOp_stored {modify : Byte → Flags → Byte × Flags} (hf : KeepsBus f) (he : e.state = s) :
    Stored [e.addr] s (rmwOp base e modify f) := by
  subst he
  refine ⟨_, rfl, (memWrite_stores _ _ _).of_same ?_ (hf.same _ _)⟩
  exact memRead_same e.state e.addr

theorem skipOp_stored (he : e.state = s) : Stored [] s (skipOp base penalty e) := by
  subst he
  exact ⟨_, rfl, .nothing ⟨rfl, rfl⟩⟩

theorem branchOp_stored {cond : Bool} {d8 : Byte} : Stored [] s (branchOp cond d8 s) := by
  cases cond <;> exact ⟨_, rfl, .nothing ⟨rfl, rfl⟩⟩

theorem jumpOp_stored (he : e.state.mem = s.mem ∧ e.state.output = s.output) : Stored [] s (jumpOp base e) :=
  ⟨_, rfl, .nothing he⟩

end

/-! ### Every instruction -/

/-- Every instruction stores to `storedAddresses` at most: by its shape, at the effective address its row gives. -/
theorem exec_stored (i : Instr) (s : State) : Stored (storedAddresses i s) s (exec i s) := by
  cases i
  -- the row of each constructor turns `storedAddresses` into a list
  all_goals simp [storedAddresses, storesAtEa, Instr.mode, Instr.mnemonic, effectiveAddress, encode]
  case brk =>
    exact ⟨_, rfl, (interrupt_stores { s with pc := s.pc + 1 } irqVector true).of_same ⟨rfl, rfl⟩ ⟨rfl, rfl⟩⟩
  case jsr a16 =>
    exact ⟨_, rfl, (push_push_stores s _ _).of_same ⟨rfl, rfl⟩ ⟨rfl, rfl⟩⟩
  case pha | php =>
    exact impliedOp_stored (push_stores s _)
  case staIzx _ | saxIzx _ | styZp _ | staZp _ | stxZp _ | saxZp _ | styAbs _ | staAbs _ | stxAbs _ | saxAbs _ |
      staIzy _ | styZpx _ | staZpx _ | stxZpy _ | saxZpy _ | staAby _ | staAbx _ =>
    exact writeOp_stored (by simp)
  case sloIzx _ | sloZp _ | sloAbs _ | sloIzy _ | sloZpx _ | sloAby _ | sloAbx _ | rlaIzx _ | rlaZp _ | rlaAbs _ |
      rlaIzy _ | rlaZpx _ | rlaAby _ | rlaAbx _ | sreIzx _ | sreZp _ | sreAbs _ | sreIzy _ | sreZpx _ | sreAby _ |
      sreAbx _ | rraIzx _ | rraZp _ | rraAbs _ | rraIzy _ | rraZpx _ | rraAby _ | rraAbx _ | iscIzx _ | iscZp _ |
      iscAbs _ | iscIzy _ | iscZpx _ | iscAby _ | iscAbx _ | dcpIzx _ | dcpZp _ | dcpAbs _ | dcpIzy _ | dcpZpx _ |
      dcpAby _ | dcpAbx _ | aslZp _ | aslAbs _ | aslZpx _ | aslAbx _ | rolZp _ | rolAbs _ | rolZpx _ | rolAbx _ |
      lsrZp _ | lsrAbs _ | lsrZpx _ | lsrAbx _ | rorZp _ | rorAbs _ | rorZpx _ | rorAbx _ | decZp _ | decAbs _ |
      decZpx _ | decAbx _ | incZp _ | incAbs _ | incZpx _ | incAbx _ =>
    exact rmwOp_stored (by exact fun _ _ => ⟨rfl, rfl, rfl⟩) (by simp)
  case oraIzx _ | oraZp _ | oraAbs _ | oraIzy _ | oraZpx _ | oraAby _ | oraAbx _ | andIzx _ | andZp _ | andAbs _ |
      andIzy _ | andZpx _ | andAby _ | andAbx _ | eorIzx _ | eorZp _ | eorAbs _ | eorIzy _ | eorZpx _ | eorAby _ |
      eorAbx _ | ldaIzx _ | ldaZp _ | ldaAbs _ | ldaIzy _ | ldaZpx _ | ldaAby _ | ldaAbx _ | bitZp _ | bitAbs _ |
      adcIzx _ | adcZp _ | adcAbs _ | adcIzy _ | adcZpx _ | adcAby _ | adcAbx _ | sbcIzx _ | sbcZp _ | sbcAbs _ |
      sbcIzy _ | sbcZpx _ | sbcAby _ | sbcAbx _ | laxIzx _ | laxZp _ | laxAbs _ | laxIzy _ | laxZpy _ | laxAby _ |
      ldyZp _ | ldyAbs _ | ldyZpx _ | ldyAbx _ | ldxZp _ | ldxAbs _ | ldxZpy _ | ldxAby _ | las _ | cmpIzx _ |
      cmpZp _ | cmpAbs _ | cmpIzy _ | cmpZpx _ | cmpAby _ | cmpAbx _ | cpyZp _ | cpyAbs _ | cpxZp _ | cpxAbs _ =>
    exact readOp_stored (by exact fun _ _ => ⟨rfl, rfl, rfl⟩) (by simp)
  case oraImm _ | anc0B _ | andImm _ | anc2B _ | eorImm _ | alr _ | adcImm _ | arr _ | ldyImm _ | ldxImm _ |
      ldaImm _ | cpyImm _ | cmpImm _ | sbx _ | cpxImm _ | sbcImm _ | usbc _ =>
    exact immOp_stored (by exact fun _ _ => ⟨rfl, rfl, rfl⟩)
  case aslAcc | rolAcc | lsrAcc | rorAcc =>
    exact accOp_stored
  case nop04 _ | nop0C _ | nop14 _ | nop1C _ | nop34 _ | nop3C _ | nop44 _ | nop54 _ | nop5C _ | nop64 _ | nop74 _ |
      nop7C _ | nop93 _ | nop9B _ | nop9C _ | nop9E _ | nop9F _ | nopD4 _ | nopDC _ | nopF4 _ | nopFC _ =>
    exact skipOp_stored (by simp)
  case bpl _ | bmi _ | bvc _ | bvs _ | bcc _ | bcs _ | bne _ | beq _ =>
    exact branchOp_stored
  case jmpAbs _ =>
    exact jumpOp_stored ⟨rfl, rfl⟩
  case jmpInd a16 =>
    exact jumpOp_stored ⟨readPointer_mem s a16, readPointer_output s a16⟩
  case pla | plp =>
    exact ⟨_, rfl, (pull_stores s).of_same ⟨rfl, rfl⟩ ⟨rfl, rfl⟩⟩
  case rts =>
    exact ⟨_, rfl, ((pull_stores s).trans (pull_stores _)).of_same ⟨rfl, rfl⟩ ⟨rfl, rfl⟩⟩
  case rti =>
    have flags := (pull_stores s).of_same (t := { s.pull.2 with flags := flagsOfByte s.pull.1 }) ⟨rfl, rfl⟩ ⟨rfl, rfl⟩
    exact ⟨_, rfl, ((flags.trans (pull_stores _)).trans (pull_stores _)).of_same ⟨rfl, rfl⟩ ⟨rfl, rfl⟩⟩
  all_goals exact impliedOp_stored (.nothing ⟨rfl, rfl⟩)

theorem exec_stores {i : Instr} {s t : State} (h : exec i s = .next t) : Stores (storedAddresses i s) s t := by
  obtain ⟨u, hu, hs⟩ := exec_stored i s
  cases h.symm.trans hu
  exact hs

/-- Settles O31: an instruction stores to `storedAddresses` at most (`exec_stores`), and no bus access writes the ROM. -/
theorem storedBytesFrame : Obligations.StoredBytesFrame := by
  intro i s t h
  obtain ⟨other, mem, output⟩ := exec_stores h
  obtain ⟨-, rom⟩ := (ActionKeeps.busProperty s).exec h ⟨id, fun _ _ => rfl⟩
  exact ⟨other, mem, rom, output⟩

end Sys2Proof.Machine
end

section
/-! SUPPORT. The cells of the opcode map agree with the encoder, byte by byte, so that decoding is the inverse of encoding
(30_encoding.md R100, R101, R103). -/

namespace Sys2Proof

/-- The instructions a format makes are encoded as the opcode byte and the operand bytes of that format, the low byte of a
16-bit operand first (30_encoding.md R101, R103). -/
def Build.Encodes (b : Build) (op : Byte) : Prop :=
  match b with
  | .f1 i => encode i = [op]
  | .f2 k => ∀ d8, encode (k d8) = [op, d8]
  | .f3 k => ∀ a16, encode (k a16) = [op, lo a16, hi a16]

/-- The cell of each constructor's opcode encodes as that constructor is encoded. -/
theorem Instr.encodes (i : Instr) : i.row.build.Encodes i.opcode := by
  cases i <;> simp [Build.Encodes, Instr.opcode, encode]

/-- Some instruction that a format makes. -/
def Build.sample (b : Build) : Instr :=
  match b with
  | .f1 i => i
  | .f2 k => k 0
  | .f3 k => k 0

/-- Every opcode byte is that of an instruction of its own cell: the one fact here that looks at all 256 cells, by the high and
the low nibble. -/
theorem sample_opcode (op : Byte) : (rowOf op).build.sample.opcode = op := by
  have cells : ∀ high low : Fin 16, (rowOf (BitVec.ofNat 8 (16 * high + low))).build.sample.opcode =
      BitVec.ofNat 8 (16 * high + low) := by decide
  have cell := cells ⟨op.toNat / 16, Nat.div_lt_of_lt_mul op.isLt⟩ ⟨op.toNat % 16, Nat.mod_lt _ (by decide)⟩
  simpa only [Nat.div_add_mod, BitVec.ofNat_toNat, BitVec.setWidth_eq] using cell

theorem rowOf_encodes (op : Byte) : (rowOf op).build.Encodes op := by
  have h := (rowOf op).build.sample.encodes
  rwa [Instr.row, sample_opcode] at h

/-! ### Decoding by the format of the opcode -/

theorem decode_f1 {op : Byte} {i : Instr} (h : (rowOf op).build = .f1 i) (rest : List Byte) :
    decode (op :: rest) = .ok (i, rest) := by
  simp only [decode, h]

theorem decode_f2 {op : Byte} {k : Byte → Instr} (h : (rowOf op).build = .f2 k) (d8 : Byte) (rest : List Byte) :
    decode (op :: d8 :: rest) = .ok (k d8, rest) := by
  simp only [decode, h]

theorem decode_f3 {op : Byte} {k : Addr → Instr} (h : (rowOf op).build = .f3 k) (l h8 : Byte) (rest : List Byte) :
    decode (op :: l :: h8 :: rest) = .ok (k (join h8 l), rest) := by
  simp only [decode, h]

/-- Whatever follows it, the encoding of an instruction that an opcode's cell makes decodes to that instruction. -/
theorem decode_encode_of_makes {op : Byte} {i : Instr} (made : (rowOf op).build.Makes i) (rest : List Byte) :
    decode (encode i ++ rest) = .ok (i, rest) := by
  have encodes := rowOf_encodes op
  cases h : (rowOf op).build with
  | f1 j =>
    rw [h] at encodes made
    obtain rfl : i = j := made
    rw [show encode i = [op] from encodes]
    exact decode_f1 h rest
  | f2 k =>
    rw [h] at encodes made
    obtain ⟨d8, rfl⟩ := made
    rw [encodes]
    exact decode_f2 h d8 rest
  | f3 k =>
    rw [h] at encodes made
    obtain ⟨a16, rfl⟩ := made
    rw [encodes]
    exact Laws.RoundTrip.of_f3 k op h a16 rest

theorem decode_encode (i : Instr) (rest : List Byte) : decode (encode i ++ rest) = .ok (i, rest) :=
  decode_encode_of_makes i.made rest

/-- Any opcode byte with enough bytes behind it decodes, and the instruction is encoded as the bytes read: as many as the mode
of the opcode's cell has. -/
theorem decode_total (op d1 d2 : Byte) (rest : List Byte) : ∃ i,
    decode (op :: d1 :: d2 :: rest) = .ok (i, (op :: d1 :: d2 :: rest).drop (rowOf op).mode.length) ∧
    encode i = [op, d1, d2].take (rowOf op).mode.length := by
  have encodes := rowOf_encodes op
  rw [Machine.rowOf_length]
  cases h : (rowOf op).build with
  | f1 i =>
    rw [h] at encodes
    exact ⟨i, decode_f1 h _, encodes⟩
  | f2 k =>
    rw [h] at encodes
    exact ⟨k d1, decode_f2 h _ _, encodes d1⟩
  | f3 k =>
    rw [h] at encodes
    refine ⟨k (join d2 d1), decode_f3 h _ _ _, ?_⟩
    rw [encodes, lo_join, hi_join]
    rfl

/-- Decoding answers an instruction and a rest exactly when the bytes are that instruction's encoding and that rest. -/
theorem decode_eq_ok_iff (bytes : List Byte) (i : Instr) (rest : List Byte) :
    decode bytes = .ok (i, rest) ↔ bytes = encode i ++ rest := by
  refine ⟨fun h => ?_, fun h => h ▸ decode_encode i rest⟩
  match bytes with
  | [] => cases h
  | op :: tail =>
    have encodes := rowOf_encodes op
    cases hb : (rowOf op).build with
    | f1 j =>
      rw [decode_f1 hb] at h
      cases h
      rw [hb] at encodes
      rw [show encode i = [op] from encodes, List.singleton_append]
    | f2 k =>
      rw [hb] at encodes
      match tail with
      | [] => simp [decode, hb] at h
      | d8 :: tail =>
        rw [decode_f2 hb] at h
        cases h
        rw [encodes]
        rfl
    | f3 k =>
      rw [hb] at encodes
      match tail with
      | [] | [_] => simp [decode, hb] at h
      | l :: h8 :: tail =>
        rw [decode_f3 hb] at h
        cases h
        rw [encodes, lo_join, hi_join]
        rfl

/-- Settles O1: `decode_eq_ok_iff` read in both directions. -/
theorem decodeEncodeAgree : Obligations.DecodeEncodeAgree :=
  ⟨fun i rest _ => decode_encode i rest, fun bytes i rest => (decode_eq_ok_iff bytes i rest).mp⟩

theorem Mode.length_bounds (m : Mode) : 1 ≤ m.length ∧ m.length ≤ 3 := by
  cases m <;> decide

/-- Settles O2: `decode_total`, and the first byte of the encoding is the opcode, which alone selects the row. -/
theorem decodingIsTotal : Obligations.DecodingIsTotal := by
  intro op d1 d2 rest
  obtain ⟨i, decoded, encoded⟩ := decode_total op d1 d2 rest
  obtain ⟨pos, le⟩ := (rowOf op).mode.length_bounds
  have opcode : i.opcode = op := by
    obtain ⟨n, hn⟩ := Nat.exists_eq_add_of_le' pos
    rw [Instr.opcode, encoded, hn]
    rfl
  exact ⟨i, decoded, opcode, congrArg rowOf opcode, encoded, pos, le⟩

/-- Settles O3: each word is the encoding of the instruction it stands for. -/
theorem sampleWordsDecode : Obligations.SampleWordsDecode := by
  simp only [Obligations.SampleWordsDecode, decode_eq_ok_iff, encode]
  decide

end Sys2Proof
end

section
/-! SUPPORT. What every instruction adds to `cycles` (30_encoding.md R108): the base cost, the page-cross penalty (40_addressing.md
R143) and the cost of a branch (45_control_flow_flags.md R235). -/

namespace Sys2Proof.Machine

theorem push_cycles (s : State) (v : Byte) : (s.push v).cycles = s.cycles := by rw [push_eq]

theorem pull_cycles (s : State) : s.pull.2.cycles = s.cycles := by rw [pull_eq]

theorem interrupt_cycles (s : State) (vector : Addr) (b : Bool) : (s.interrupt vector b).cycles = s.cycles := by
  simp only [State.interrupt, read16_cycles, push_cycles]

theorem returnFromInterrupt_cycles (s : State) : s.returnFromInterrupt.cycles = s.cycles := by
  simp only [State.returnFromInterrupt, pull_cycles]

/-! ### The shapes of an instruction -/

/-- An operation on a byte that leaves `cycles` alone. -/
def KeepsCycles (f : State → Byte → State) : Prop := ∀ (s : State) (m : Byte), (f s m).cycles = s.cycles

/-- The meaning answers a next state, with `n` more cycles than `s`. -/
def Costs (n : Nat) (s : State) (r : Result) : Prop := ∃ t : State, r = .next t ∧ t.cycles = s.cycles + n

section
variable {s : State} {base : Nat} {e : Ea} {penalty : Bool} {f : State → Byte → State}

theorem charge_costs {u : State} (h : u.cycles = s.cycles) : Costs base s (.next (u.charge base)) :=
  ⟨_, rfl, congrArg (· + base) h⟩

theorem immOp_costs {d8 : Byte} (hf : KeepsCycles f) : Costs base s (immOp base d8 s f) := charge_costs (hf s d8)

theorem accOp_costs {modify : Byte → Flags → Byte × Flags} : Costs base s (accOp base s modify) := charge_costs rfl

theorem readOp_costs (hf : KeepsCycles f) (he : e.state = s) :
    Costs (base + pagePenalty penalty e.crossed) s (readOp base penalty e f) := by
  subst he
  exact charge_costs ((hf _ _).trans (memRead_cycles _ _))

theorem writeOp_costs {v : Byte} (he : e.state = s) : Costs base s (writeOp base e v) := by
  subst he
  exact charge_costs (memWrite_cycles _ _ _)

theorem rmwOp_costs {modify : Byte → Flags → Byte × Flags} (hf : KeepsCycles f) (he : e.state = s) :
    Costs base s (rmwOp base e modify f) := by
  subst he
  exact charge_costs ((hf _ _).trans ((memWrite_cycles _ _ _).trans (memRead_cycles _ _)))

theorem skipOp_costs (he : e.state = s) : Costs (base + pagePenalty penalty e.crossed) s (skipOp base penalty e) := by
  subst he
  exact charge_costs rfl

/-- A branch not taken costs 2, one taken 3, and across a page 4. -/
theorem branchOp_costs {cond : Bool} {d8 : Byte} :
    Costs (2 + if cond = true then 1 + pagePenalty true (eaRel d8 s).crossed else 0) s (branchOp cond d8 s) := by
  cases cond
  · exact charge_costs rfl
  · exact ⟨_, rfl, congrArg (s.cycles + ·) (Nat.add_assoc 2 1 _)⟩

theorem jumpOp_costs (he : e.state.cycles = s.cycles) : Costs base s (jumpOp base e) := charge_costs he

end

/-! ### Every instruction -/

/-- Every instruction costs what its row says: its shape charges the cycles of the row, at the page crossing of its effective
address. -/
theorem exec_costs (i : Instr) (s : State) : Costs (costOf i s) s (exec i s) := by
  cases i
  -- the row of each constructor turns `costOf` into its cycles, its penalty and its addressing mode
  all_goals simp [costOf, Instr.mode, Instr.mnemonic, effectiveAddress, encode]
  case oraIzx _ | oraZp _ | oraAbs _ | oraIzy _ | oraZpx _ | oraAby _ | oraAbx _ | andIzx _ | andZp _ | andAbs _ |
      andIzy _ | andZpx _ | andAby _ | andAbx _ | eorIzx _ | eorZp _ | eorAbs _ | eorIzy _ | eorZpx _ | eorAby _ |
      eorAbx _ | bitZp _ | bitAbs _ | adcIzx _ | adcZp _ | adcAbs _ | adcIzy _ | adcZpx _ | adcAby _ | adcAbx _ |
      sbcIzx _ | sbcZp _ | sbcAbs _ | sbcIzy _ | sbcZpx _ | sbcAby _ | sbcAbx _ | cmpIzx _ | cmpZp _ | cmpAbs _ |
      cmpIzy _ | cmpZpx _ | cmpAby _ | cmpAbx _ | cpxZp _ | cpxAbs _ | cpyZp _ | cpyAbs _ | ldaIzx _ | ldaZp _ |
      ldaAbs _ | ldaIzy _ | ldaZpx _ | ldaAby _ | ldaAbx _ | ldxZp _ | ldxAbs _ | ldxZpy _ | ldxAby _ | ldyZp _ |
      ldyAbs _ | ldyZpx _ | ldyAbx _ | laxIzx _ | laxZp _ | laxAbs _ | laxIzy _ | laxZpy _ | laxAby _ | las _ =>
    exact readOp_costs (by exact fun _ _ => rfl) (by simp)
  case oraImm _ | anc0B _ | andImm _ | anc2B _ | eorImm _ | alr _ | adcImm _ | arr _ | ldyImm _ | ldxImm _ |
      ldaImm _ | cpyImm _ | cmpImm _ | sbx _ | cpxImm _ | sbcImm _ | usbc _ =>
    exact immOp_costs (by exact fun _ _ => rfl)
  case staIzx _ | staZp _ | staAbs _ | staIzy _ | staZpx _ | staAby _ | staAbx _ | stxZp _ | stxAbs _ | stxZpy _ |
      styZp _ | styAbs _ | styZpx _ | saxIzx _ | saxZp _ | saxAbs _ | saxZpy _ =>
    exact writeOp_costs (by simp)
  case aslZp _ | aslAbs _ | aslZpx _ | aslAbx _ | lsrZp _ | lsrAbs _ | lsrZpx _ | lsrAbx _ | rolZp _ | rolAbs _ |
      rolZpx _ | rolAbx _ | rorZp _ | rorAbs _ | rorZpx _ | rorAbx _ | incZp _ | incAbs _ | incZpx _ | incAbx _ |
      decZp _ | decAbs _ | decZpx _ | decAbx _ | sloIzx _ | sloZp _ | sloAbs _ | sloIzy _ | sloZpx _ | sloAby _ |
      sloAbx _ | rlaIzx _ | rlaZp _ | rlaAbs _ | rlaIzy _ | rlaZpx _ | rlaAby _ | rlaAbx _ | sreIzx _ | sreZp _ |
      sreAbs _ | sreIzy _ | sreZpx _ | sreAby _ | sreAbx _ | rraIzx _ | rraZp _ | rraAbs _ | rraIzy _ | rraZpx _ |
      rraAby _ | rraAbx _ | dcpIzx _ | dcpZp _ | dcpAbs _ | dcpIzy _ | dcpZpx _ | dcpAby _ | dcpAbx _ | iscIzx _ |
      iscZp _ | iscAbs _ | iscIzy _ | iscZpx _ | iscAby _ | iscAbx _ =>
    exact rmwOp_costs (by exact fun _ _ => rfl) (by simp)
  case nop04 _ | nop0C _ | nop14 _ | nop1C _ | nop34 _ | nop3C _ | nop44 _ | nop54 _ | nop5C _ | nop64 _ | nop74 _ |
      nop7C _ | nop93 _ | nop9B _ | nop9C _ | nop9E _ | nop9F _ | nopD4 _ | nopDC _ | nopF4 _ | nopFC _ =>
    exact skipOp_costs (by simp)
  case bpl _ | bmi _ | bvc _ | bvs _ | bcc _ | bcs _ | bne _ | beq _ =>
    exact branchOp_costs
  case aslAcc | rolAcc | lsrAcc | rorAcc =>
    exact accOp_costs
  case jmpAbs _ =>
    exact jumpOp_costs rfl
  case jmpInd a16 =>
    exact jumpOp_costs (by exact readPointer_cycles s a16)
  case pha | php =>
    exact charge_costs (push_cycles s _)
  case pla | plp =>
    exact charge_costs (by exact pull_cycles s)
  case jsr =>
    exact charge_costs (by exact (push_cycles _ _).trans (push_cycles s _))
  case rts =>
    exact charge_costs (by exact (pull_cycles _).trans (pull_cycles s))
  case rti =>
    exact charge_costs (returnFromInterrupt_cycles s)
  case brk =>
    exact charge_costs (by exact interrupt_cycles { s with pc := s.pc + 1 } irqVector true)
  all_goals exact charge_costs rfl

theorem exec_cycles {i : Instr} {s t : State} (h : exec i s = .next t) : t.cycles = s.cycles + costOf i s := by
  obtain ⟨u, hu, hc⟩ := exec_costs i s
  cases h.symm.trans hu
  exact hc

/-! ### The page-cross penalty -/

/-- Besides a branch, only the indexed modes `abx`, `aby` and `izy` can cross a page (40_addressing.md R137, R138, R141). -/
theorem mode_of_crossed {i : Instr} {s : State} (h : (effectiveAddress i s).crossed = true) :
    i.mode = .abx ∨ i.mode = .aby ∨ i.mode = .izy ∨ i.mode = .rel := by
  unfold effectiveAddress at h
  split at h
  -- the alternatives of `abx`, `aby`, `izy` and `rel`; in every other one `crossed` is `false`
  case h_6 mode _ | h_7 mode _ | h_10 mode _ | h_11 mode _ => simp [mode]
  all_goals cases h

theorem one_add_pagePenalty (crossed : Bool) : 1 + pagePenalty true crossed = if crossed then 2 else 1 := by
  cases crossed <;> rfl

theorem pagePenalty_eq (penalty crossed : Bool) :
    pagePenalty penalty crossed = if penalty = true ∧ crossed = true then 1 else 0 := by
  simp only [pagePenalty, Bool.and_eq_true]

/-- Settles O4: `exec_cycles`, and a penalty is paid in the indexed modes only (`mode_of_crossed`). -/
theorem cycleCost : Obligations.CycleCost := by
  intro i s t h
  rw [exec_cycles h, costOf, Nat.add_assoc, one_add_pagePenalty, pagePenalty_eq]
  congr 2
  refine ite_congr rfl (fun _ => rfl) fun notRel => if_congr ?_ rfl rfl
  have indexed (crossed : (effectiveAddress i s).crossed = true) : i.mode = .abx ∨ i.mode = .aby ∨ i.mode = .izy := by
    have := mode_of_crossed crossed
    tauto
  exact ⟨fun ⟨penalty, crossed⟩ => ⟨penalty, indexed crossed, crossed⟩, fun ⟨penalty, _, crossed⟩ => ⟨penalty, crossed⟩⟩

end Sys2Proof.Machine
end

section
/-! SUPPORT. The effective address of each addressing mode as a number, and whether its page was crossed (40_addressing.md
R132–R142). -/

namespace Sys2Proof.Machine

/-! ### The addressing-mode routine of an instruction -/

section
variable {i : Instr} {op d8 l h : Byte} (s : State)

theorem effectiveAddress_imm (hm : i.mode = .imm) : effectiveAddress i s = ⟨s.pc - 1, false, s⟩ := by
  rw [effectiveAddress, hm]

theorem effectiveAddress_zp (hm : i.mode = .zp) (he : encode i = [op, d8]) : effectiveAddress i s = eaZp d8 s := by
  rw [effectiveAddress, hm, he]

theorem effectiveAddress_zpx (hm : i.mode = .zpx) (he : encode i = [op, d8]) : effectiveAddress i s = eaZpx d8 s := by
  rw [effectiveAddress, hm, he]

theorem effectiveAddress_zpy (hm : i.mode = .zpy) (he : encode i = [op, d8]) : effectiveAddress i s = eaZpy d8 s := by
  rw [effectiveAddress, hm, he]

theorem effectiveAddress_izx (hm : i.mode = .izx) (he : encode i = [op, d8]) : effectiveAddress i s = eaIzx d8 s := by
  rw [effectiveAddress, hm, he]

theorem effectiveAddress_izy (hm : i.mode = .izy) (he : encode i = [op, d8]) : effectiveAddress i s = eaIzy d8 s := by
  rw [effectiveAddress, hm, he]

theorem effectiveAddress_rel (hm : i.mode = .rel) (he : encode i = [op, d8]) : effectiveAddress i s = eaRel d8 s := by
  rw [effectiveAddress, hm, he]

theorem effectiveAddress_abs (hm : i.mode = .abs) (he : encode i = [op, l, h]) :
    effectiveAddress i s = eaAbs (join h l) s := by
  rw [effectiveAddress, hm, he]

theorem effectiveAddress_abx (hm : i.mode = .abx) (he : encode i = [op, l, h]) :
    effectiveAddress i s = eaAbx (join h l) s := by
  rw [effectiveAddress, hm, he]

theorem effectiveAddress_aby (hm : i.mode = .aby) (he : encode i = [op, l, h]) :
    effectiveAddress i s = eaAby (join h l) s := by
  rw [effectiveAddress, hm, he]

theorem effectiveAddress_ind (hm : i.mode = .ind) (he : encode i = [op, l, h]) :
    effectiveAddress i s = eaInd (join h l) s := by
  rw [effectiveAddress, hm, he]

/-- With one operand byte no mode reads a pointer outside the zero page, so none changes the state. -/
theorem effectiveAddress_state (he : encode i = [op, d8]) : (effectiveAddress i s).state = s := by
  cases hm : i.mode
  case izx => rw [effectiveAddress_izx s hm he, eaIzx_state]
  case izy => rw [effectiveAddress_izy s hm he, eaIzy_state]
  all_goals simp [effectiveAddress, hm, he, eaRel]

end

/-! ### The address as a number, and the crossing of a page -/

theorem join_toNat_low_first (h l : Byte) : (join h l).toNat = l.toNat + 256 * h.toNat := by
  rw [join_toNat, Nat.add_comm]

theorem pageDiffers_iff (p q : Addr) : pageDiffers p q = true ↔ p.toNat / 256 ≠ q.toNat / 256 := by
  rw [pageDiffers, bne_iff_ne, Ne, ← BitVec.toNat_inj, hi_toNat, hi_toNat]

/-- A zero-page sum wraps at 0x100 (40_addressing.md R134, R135). -/
theorem zeroPage_add_toNat (d8 index : Byte) : (zeroPage (d8 + index)).toNat = (d8.toNat + index.toNat) % 256 := by
  rw [zeroPage_toNat, BitVec.toNat_add]

theorem byte_succ_toNat (v : Byte) : (v + 1).toNat = (v.toNat + 1) % 256 := BitVec.toNat_add v 1

/-- An indexed sum wraps at 0x10000 (40_addressing.md R137, R138). -/
theorem eaIndexed_addr_toNat (base : Addr) (index : Byte) (s : State) :
    (eaIndexed base index s).addr.toNat = (base.toNat + index.toNat) % 65536 := by
  rw [eaIndexed, BitVec.toNat_add, zeroPage_toNat]

theorem eaIndexed_crossed_iff (base : Addr) (index : Byte) (s : State) : (eaIndexed base index s).crossed = true ↔
    (eaIndexed base index s).addr.toNat / 256 ≠ base.toNat / 256 :=
  pageDiffers_iff _ _

/-- An indexed address and its page crossing, from the two bytes of the base. -/
theorem eaIndexed_join (h l index : Byte) (s : State) :
    (eaIndexed (join h l) index s).addr.toNat = (l.toNat + 256 * h.toNat + index.toNat) % 65536 ∧
    ((eaIndexed (join h l) index s).crossed = true ↔
      (eaIndexed (join h l) index s).addr.toNat / 256 ≠ (l.toNat + 256 * h.toNat) / 256) := by
  rw [← join_toNat_low_first]
  exact ⟨eaIndexed_addr_toNat _ index s, eaIndexed_crossed_iff _ index s⟩

theorem eaIzx_addr_toNat (d8 : Byte) (s : State) :
    (eaIzx d8 s).addr.toNat = (s.mem.read (d8 + s.x).toNat).toNat + 256 * (s.mem.read (d8 + s.x + 1).toNat).toNat := by
  rw [eaIzx, readPointer_zeroPage, join_toNat_low_first]

/-- `izy` indexes the pointer its operand names (40_addressing.md R141). -/
theorem eaIzy_eq (d8 : Byte) (s : State) :
    eaIzy d8 s = eaIndexed (join (s.mem.read (d8 + 1).toNat) (s.mem.read d8.toNat)) s.y s := by
  rw [eaIzy, readPointer_zeroPage]

/-- A branch target wraps at 0x10000, in both directions (40_addressing.md R142). -/
theorem eaRel_addr_toNat (d8 : Byte) (s : State) :
    ((eaRel d8 s).addr.toNat : Int) = (s.pc.toNat + d8.toInt) % 65536 := by
  have offset : ((signExtend8 d8).toNat : Int) = d8.toInt % 65536 := by
    rw [signExtend8, BitVec.signExtend, BitVec.toNat_ofInt]
    omega
  rw [eaRel, BitVec.toNat_add, Int.natCast_mod, Nat.cast_add, offset]
  omega

/-- `ind` reads the low byte of its pointer, then the high byte in the same page (40_addressing.md R139). -/
theorem eaInd_addr_toNat (l h : Byte) (s : State) :
    (eaInd (join h l) s).addr.toNat =
      (s.memRead (join h l)).1.toNat + 256 * ((s.memRead (join h l)).2.memRead (join h (l + 1))).1.toNat := by
  rw [eaInd, State.readPointer, hi_join, lo_join, join_toNat_low_first]

theorem eaInd_state (l h : Byte) (s : State) :
    (eaInd (join h l) s).state = ((s.memRead (join h l)).2.memRead (join h (l + 1))).2 := by
  rw [eaInd, State.readPointer, hi_join, lo_join]

/-- Settles O30: the routine of each mode (`effectiveAddress_zp` and the like), its address as a number and its page crossing. -/
theorem effectiveAddresses : Obligations.EffectiveAddresses := by
  intro i s
  refine ⟨fun hm => ?imm, fun op d8 he => ⟨effectiveAddress_state s he, fun hm => ?zp, fun hm => ?zpx, fun hm => ?zpy,
    fun hm => ?izx, fun hm => ?izy, fun hm => ?rel⟩,
    fun op l h he => ⟨fun hm => ?abs, fun hm => ?abx, fun hm => ?aby, fun hm => ?ind⟩⟩
  case imm =>
    rw [effectiveAddress_imm s hm]
    exact ⟨rfl, rfl⟩
  case zp =>
    rw [effectiveAddress_zp s hm he]
    exact ⟨zeroPage_toNat d8, rfl⟩
  case zpx =>
    rw [effectiveAddress_zpx s hm he]
    exact ⟨zeroPage_add_toNat d8 s.x, rfl⟩
  case zpy =>
    rw [effectiveAddress_zpy s hm he]
    exact ⟨zeroPage_add_toNat d8 s.y, rfl⟩
  case izx =>
    rw [effectiveAddress_izx s hm he]
    refine ⟨?_, rfl⟩
    rw [eaIzx_addr_toNat, byte_succ_toNat, BitVec.toNat_add]
  case izy =>
    rw [effectiveAddress_izy s hm he, eaIzy_eq, ← byte_succ_toNat]
    exact eaIndexed_join _ _ s.y s
  case rel =>
    rw [effectiveAddress_rel s hm he]
    exact ⟨eaRel_addr_toNat d8 s, pageDiffers_iff _ _⟩
  case abs =>
    rw [effectiveAddress_abs s hm he]
    exact ⟨join_toNat_low_first h l, rfl, rfl⟩
  case abx =>
    rw [effectiveAddress_abx s hm he]
    obtain ⟨addr, crossed⟩ := eaIndexed_join h l s.x s
    exact ⟨addr, crossed, rfl⟩
  case aby =>
    rw [effectiveAddress_aby s hm he]
    obtain ⟨addr, crossed⟩ := eaIndexed_join h l s.y s
    exact ⟨addr, crossed, rfl⟩
  case ind =>
    rw [effectiveAddress_ind s hm he]
    exact ⟨eaInd_addr_toNat l h s, rfl, eaInd_state l h s⟩

end Sys2Proof.Machine
end

section
/-! SUPPORT. What the instructions that read an operand byte do with it, and what the stores do, each said once for all addressing
modes: the access is at the effective address, and the cost is that of the form (20_memory.md R84, 30_encoding.md R108). The loads,
the stores and the register transfers follow (41_load_store_transfer.md R150–R161, 46_undocumented.md R265, R266, R274). -/

namespace Sys2Proof.Machine

/-! ### Instructions that read their operand -/

/-- What an instruction that reads its operand byte and stores none does with that byte. -/
def readOperation : Mnemonic → Option (State → Byte → State)
  | .lda => some State.loadA
  | .ldx => some State.loadX
  | .ldy => some State.loadY
  | .lax => some State.loadAX
  | .las => some State.loadAXS
  | .adc => some State.adc
  | .sbc | .usbc => some State.sbc
  | .and => some State.andA
  | .ora => some State.orA
  | .eor => some State.eorA
  | .bit => some State.bitTest
  | .cmp => some State.cmpA
  | .cpx => some State.cmpX
  | .cpy => some State.cmpY
  | .anc => some State.anc
  | .alr => some State.alr
  | .arr => some State.arr
  | .sbx => some State.sbx
  | _ => none

/-- When the effective address was found without a side effect, `readOp` hands on the state with the PIA as the read leaves it. -/
theorem readOp_of_state {s : State} {base : Nat} {penalty : Bool} {e : Ea} {f : State → Byte → State} (he : e.state = s) :
    readOp base penalty e f = .next ((f { s with pia := (s.memRead e.addr).2.pia } (s.memRead e.addr).1).charge
      (base + pagePenalty penalty e.crossed)) := by
  rw [readOp_eq, he, ← memRead_frame]

/-- An instruction that reads its operand does its operation with the operand byte and adds the cost of its form. -/
theorem exec_of_readOperation {i : Instr} {f : State → Byte → State} (h : readOperation i.mnemonic = some f) (s : State) :
    exec i s = .next
      ((f { s with pia := (operandRead i s).2.pia } (operandRead i s).1).charge (costOf i s)) := by
  cases i
  -- the row of each constructor decides `readOperation`: what has none drops out
  all_goals simp [readOperation, Instr.mnemonic] at h
  -- for the rest it turns `operandRead` and `costOf` into the addressing mode, the cycles and the penalty
  all_goals subst h; simp [operandRead, costOf, Instr.mode, effectiveAddress, encode]
  case oraImm _ | anc0B _ | andImm _ | anc2B _ | eorImm _ | alr _ | adcImm _ | arr _ | ldyImm _ | ldxImm _ |
      ldaImm _ | cpyImm _ | cmpImm _ | sbx _ | cpxImm _ | sbcImm _ | usbc _ =>
    exact immOp_eq _ _ s _
  -- every other form reads memory, at an effective address found without a side effect
  all_goals exact readOp_of_state (by simp)

/-! ### Stores -/

/-- The byte a store writes (41_load_store_transfer.md R153, R154, R155; 46_undocumented.md R265). -/
def storedByte (s : State) : Mnemonic → Option Byte
  | .sta => some s.a
  | .stx => some s.x
  | .sty => some s.y
  | .sax => some (s.a &&& s.x)
  | _ => none

theorem writeOp_of_state {s : State} {base : Nat} {e : Ea} {v : Byte} (he : e.state = s) :
    writeOp base e v = .next ((s.memWrite e.addr v).charge base) := by
  rw [writeOp_eq, he]

/-- A store makes one bus write, at its effective address, and adds the cost of its form. -/
theorem exec_of_storedByte {i : Instr} {s : State} {v : Byte} (h : storedByte s i.mnemonic = some v) :
    exec i s = .next ((s.memWrite (effectiveAddress i s).addr v).charge (costOf i s)) := by
  cases i
  -- as in `exec_of_readOperation`: the stores remain, each with its addressing mode and its cycles
  all_goals simp [storedByte, Instr.mnemonic] at h
  all_goals subst h; simp [costOf, Instr.mode, effectiveAddress, encode]
  all_goals exact writeOp_of_state (by simp)

/-- A write to RAM is read back. -/
theorem memWrite_read_same (s : State) (a : Addr) (v : Byte) (h : isRam a.toNat = true) :
    (s.memWrite a v).mem.read a.toNat = v := by
  rw [memWrite_ram s a v h, Memory.read_write_same]

/-! ### The loads, the stores and the transfers -/

/-- Settles O6: `exec_of_readOperation` at the operation of each mnemonic. -/
theorem loadResults : Obligations.LoadResults := by
  refine ⟨by decide, by decide, by decide, by decide, by decide, fun i s => ⟨?lda, ?ldx, ?ldy, ?lax, ?las⟩⟩
  all_goals
    intro hm
    exact exec_of_readOperation (by rw [hm]; rfl) s

/-- Settles O7: a store is one bus write (`exec_of_storedByte`), of which the Bus says what it leaves alone (`memWrite_frame`,
`memWrite_read_other`) and what it stores (`memWrite_read_same`). -/
theorem storeResults : Obligations.StoreResults := by
  refine ⟨by decide, by decide, by decide, by decide, fun i s v hv => ⟨?next, ?other, ?same⟩⟩
  case next =>
    have stored : storedByte s i.mnemonic = some v := by
      rcases hv with ⟨hm, rfl⟩ | ⟨hm, rfl⟩ | ⟨hm, rfl⟩ | ⟨hm, rfl⟩ <;> rw [hm] <;> rfl
    rw [exec_of_storedByte stored, memWrite_frame]
    rfl
  case other => exact memWrite_read_other s _ v
  case same => exact memWrite_read_same s _ v

/-- Settles O8: the six transfers are implied instructions of 2 cycles. -/
theorem transferResults : Obligations.TransferResults := by
  refine ⟨by decide, by decide, by decide, by decide, by decide, by decide, ?tax, ?tay, ?tsx, ?txa, ?txs, ?tya⟩
  all_goals exact fun s => impliedOp_eq 2 _

end Sys2Proof.Machine
end

section
/-! SUPPORT. The stack instructions and the subroutine call, each as the whole state it leaves, and the call undone by the
return (42_stack.md R170–R176, 45_control_flow_flags.md R221, R222). -/

namespace Sys2Proof.Machine

/-! ### Pushes and pulls -/

/-- An implied instruction that only pushes: the byte at `0x0100 | S`, `S` down by 1, the cycles, and nothing else. -/
theorem impliedOp_push (base : Nat) (s : State) (v : Byte) : impliedOp base (s.push v) = .next { s with
    mem := s.mem.write (256 + s.sp.toNat) v, sp := s.sp - 1, cycles := s.cycles + base } := by
  rw [impliedOp_eq, push_eq]
  rfl

/-- Settles O9: each is a push of 3 cycles (`impliedOp_push`), and the two bits are in the layout of `P(1)`. -/
theorem pushResults : Obligations.PushResults := by
  refine ⟨by decide, by decide, fun s => ?pha, fun s => ?php, fun f => ⟨?bit5, ?bit4⟩⟩
  case pha => exact impliedOp_push 3 s s.a
  case php => exact impliedOp_push 3 s (statusByte true s.flags)
  case bit5 => exact statusByte_getLsbD true f 5 (by decide)
  case bit4 => exact statusByte_getLsbD true f 4 (by decide)

/-- Settles O10: each is a pull (`pull_eq`) of 4 cycles, whose byte goes to `A` with `N` and `Z`, or to the flags. -/
theorem pullResults : Obligations.PullResults := by
  refine ⟨by decide, by decide, fun s => ?pla, fun s => ?plp⟩
  case pla =>
    change execPla s = _
    rw [execPla, pull_eq]
    rfl
  case plp =>
    change execPlp s = _
    rw [execPlp, pull_eq]
    rfl

/-! ### Subroutine call and return -/

/-- JSR pushes the address of its last byte, high byte first (45_control_flow_flags.md R221). -/
theorem exec_jsr (a16 : Addr) (s : State) : exec (.jsr a16) s = .next { s with
    mem := (s.mem.write (256 + s.sp.toNat) (hi (s.pc - 1))).write (256 + (s.sp - 1).toNat) (lo (s.pc - 1)),
    sp := s.sp - 2, pc := a16, cycles := s.cycles + 6 } := by
  have two : s.sp - 2 = s.sp - 1 - 1 := (sub_sub s.sp 1 1).symm
  change execJsr a16 s = _
  simp only [execJsr, push_eq, two]
  rfl

/-- RTS pulls an address, low byte first, and goes one past it (45_control_flow_flags.md R222). -/
theorem exec_rts (s : State) : exec .rts s = .next { s with
    pc := join (s.mem.read (256 + (s.sp + 2).toNat)) (s.mem.read (256 + (s.sp + 1).toNat)) + 1,
    sp := s.sp + 2, cycles := s.cycles + 6 } := by
  have two : s.sp + 2 = s.sp + 1 + 1 := (add_assoc s.sp 1 1).symm
  change execRts s = _
  simp only [execRts, pull_eq, two]
  rfl

/-- A second push leaves the byte of the first, though `S` may wrap between them. -/
theorem read_first_of_two_pushes (m : Memory) (p v w : Byte) :
    ((m.write (256 + p.toNat) v).write (256 + (p - 1).toNat) w).read (256 + p.toNat) = v := by
  have apart : 256 + (p - 1).toNat ≠ 256 + p.toNat := by bv_omega
  rw [Memory.read_write_other _ _ _ _ apart, Memory.read_write_same]

/-- Settles O45: RTS pulls the two bytes JSR pushed, which make the address before the one it returns to. -/
theorem rtsUndoesJsr : Obligations.RtsUndoesJsr := by
  intro a16 s t u hjsr hrts
  rw [exec_jsr] at hjsr
  rw [exec_rts] at hrts
  cases hjsr
  cases hrts
  have top : s.sp - 2 + 2 = s.sp := sub_add_cancel s.sp 2
  have below : s.sp - 2 + 1 = s.sp - 1 := by bv_omega
  refine ⟨rfl, ?_⟩
  simp only [top, below, read_first_of_two_pushes, Memory.read_write_same, join_hi_lo, sub_add_cancel]

end Sys2Proof.Machine
end

section
/-! SUPPORT. The arithmetic unit as numbers: binary addition, subtraction as addition of the complement, and decimal digits
(43_arithmetic.md R180–R182, R184, R196). -/

namespace Sys2Proof.Machine

/-! ### The sign bit of a byte -/

theorem msb_eq_true_iff (v : Byte) : v.msb = true ↔ 128 ≤ v.toNat := by
  rw [BitVec.msb_eq_decide, decide_eq_true_iff]

theorem toInt_byte (v : Byte) : v.toInt = if 128 ≤ v.toNat then (v.toNat : Int) - 256 else v.toNat := by
  simp only [BitVec.toInt_eq_msb_cond, msb_eq_true_iff]
  rfl

theorem and_0x80_ne_zero_iff (v : Byte) : v &&& 0x80 ≠ 0 ↔ v.msb = true := by
  have bit : v &&& 0x80 = if v.msb = true then 0x80 else 0 := BitVec.and_twoPow v 7
  rw [bit]
  split <;> simp [*]

/-! ### Binary addition -/

theorem adcBinary_toNat (a m : Byte) (f : Flags) :
    (adcBinary a m f).1.toNat = (a.toNat + m.toNat + f.c.toNat) % 256 := BitVec.toNat_ofNat _ 8

theorem adcBinary_c (a m : Byte) (f : Flags) :
    (adcBinary a m f).2.c = decide (255 < a.toNat + m.toNat + f.c.toNat) := rfl

theorem adcBinary_v (a m : Byte) (f : Flags) : (adcBinary a m f).2.v = addOverflow a m (adcBinary a m f).1 := rfl

theorem addOverflow_iff_mask (a m r : Byte) :
    addOverflow a m r = true ↔ (~~~(a ^^^ m)) &&& (a ^^^ r) &&& 0x80 ≠ 0 := (and_0x80_ne_zero_iff _).symm

/-- The operands have one sign and the result has the other. -/
theorem addOverflow_iff_sign (a m r : Byte) :
    addOverflow a m r = true ↔ (128 ≤ a.toNat ↔ 128 ≤ m.toNat) ∧ ¬ (128 ≤ a.toNat ↔ 128 ≤ r.toNat) := by
  simp only [addOverflow, BitVec.msb_and, BitVec.msb_not, BitVec.msb_xor, ← msb_eq_true_iff]
  cases a.msb <;> cases m.msb <;> cases r.msb <;> decide

/-- The overflow flag of an addition says that the signed sum leaves -128..127 (43_arithmetic.md R180). -/
theorem adcBinary_v_iff_signed (a m : Byte) (f : Flags) : (adcBinary a m f).2.v = true ↔
    a.toInt + m.toInt + f.c.toNat < -128 ∨ 127 < a.toInt + m.toInt + f.c.toNat := by
  have := a.isLt
  have := m.isLt
  have := f.c.toNat_le
  rw [adcBinary_v, addOverflow_iff_sign, adcBinary_toNat, toInt_byte, toInt_byte]
  split <;> split <;> omega

/-- Settles O12: the sum and carry are those of the definition, and `V` has its two readings. -/
theorem adcBinaryLaw : Obligations.AdcBinaryLaw := fun a m f =>
  ⟨adcBinary_toNat a m f, adcBinary_c a m f, BitVec.msb_eq_getLsbD_last (adcBinary a m f).1, rfl, rfl,
    rfl, addOverflow_iff_mask a m _, adcBinary_v_iff_signed a m f⟩

/-! ### Binary subtraction -/

theorem xor_0xFF (m : Byte) : m ^^^ 0xFF = ~~~m := BitVec.xor_allOnes

theorem xor_0xFF_toNat (m : Byte) : (m ^^^ 0xFF).toNat = 255 - m.toNat := by
  rw [xor_0xFF, BitVec.toNat_not]

theorem xor_0xFF_toInt (m : Byte) : (m ^^^ 0xFF).toInt = -1 - m.toInt := by
  have := m.isLt
  rw [toInt_byte, toInt_byte, xor_0xFF_toNat]
  split <;> split <;> omega

theorem addOverflow_xor_0xFF (a m r : Byte) : addOverflow a (m ^^^ 0xFF) r = subOverflow a m r := by
  simp only [addOverflow, subOverflow, xor_0xFF, BitVec.msb_and, BitVec.msb_not, BitVec.msb_xor]
  cases a.msb <;> cases m.msb <;> rfl

/-- Subtraction is addition of the one's complement (43_arithmetic.md R182). -/
theorem sbcBinary_eq_adcBinary (a m : Byte) (f : Flags) : sbcBinary a m f = adcBinary a (m ^^^ 0xFF) f := by
  simp only [sbcBinary, adcBinary, addOverflow_xor_0xFF]

theorem sbcBinary_toNat (a m : Byte) (f : Flags) :
    (sbcBinary a m f).1.toNat = (a.toNat + (m ^^^ 0xFF).toNat + f.c.toNat) % 256 := by
  rw [sbcBinary_eq_adcBinary, adcBinary_toNat]

theorem sbcBinary_toNat_eq_sub (a m : Byte) (f : Flags) :
    ((sbcBinary a m f).1.toNat : Int) = ((a.toNat : Int) - m.toNat - (1 - f.c.toNat)) % 256 := by
  have := m.isLt
  rw [sbcBinary_toNat, xor_0xFF_toNat]
  omega

/-- The carry a subtraction leaves says that there is no borrow. -/
theorem sbcBinary_c_iff (a m : Byte) (f : Flags) :
    (sbcBinary a m f).2.c = true ↔ m.toNat + (1 - f.c.toNat) ≤ a.toNat := by
  have := m.isLt
  have := f.c.toNat_le
  rw [sbcBinary_eq_adcBinary, adcBinary_c, decide_eq_true_iff, xor_0xFF_toNat]
  omega

theorem subOverflow_iff_mask (a m r : Byte) :
    subOverflow a m r = true ↔ (a ^^^ m) &&& (a ^^^ r) &&& 0x80 ≠ 0 := (and_0x80_ne_zero_iff _).symm

theorem sbcBinary_v_iff_signed (a m : Byte) (f : Flags) : (sbcBinary a m f).2.v = true ↔
    a.toInt - m.toInt - (1 - f.c.toNat) < -128 ∨ 127 < a.toInt - m.toInt - (1 - f.c.toNat) := by
  rw [sbcBinary_eq_adcBinary, adcBinary_v_iff_signed, xor_0xFF_toInt]
  omega

/-- Settles O14: the laws of addition, read at the complement of the operand. -/
theorem sbcBinaryLaw : Obligations.SbcBinaryLaw := fun a m f =>
  ⟨sbcBinary_toNat a m f, sbcBinary_toNat_eq_sub a m f, sbcBinary_c_iff a m f,
    BitVec.msb_eq_getLsbD_last (sbcBinary a m f).1, rfl, rfl, rfl, subOverflow_iff_mask a m _, sbcBinary_v_iff_signed a m f⟩

/-! ### Subtraction undone by addition -/

/-- With the borrows as numbers: what was subtracted, added to the difference, gives `A` and 256 times the borrow. -/
theorem sbcBinary_add_borrow (a m : Byte) (f : Flags) : (sbcBinary a m f).1.toNat + m.toNat + (1 - f.c.toNat) =
    a.toNat + 256 * (1 - (sbcBinary a m f).2.c.toNat) := by
  have := a.isLt
  have := m.isLt
  have := f.c.toNat_le
  have carry := sbcBinary_c_iff a m f
  rw [sbcBinary_toNat, xor_0xFF_toNat]
  cases hc : (sbcBinary a m f).2.c
  all_goals
    simp only [hc, Bool.false_eq_true, false_iff, true_iff, Bool.toNat_false, Bool.toNat_true] at carry ⊢
    omega

theorem not_toNat (b : Bool) : (!b).toNat = 1 - b.toNat := by
  cases b <;> rfl

theorem ne_iff_toNat_add (b c : Bool) : b ≠ c ↔ b.toNat + c.toNat = 1 := by
  cases b <;> cases c <;> decide

/-- Settles O27: `sbcBinary_add_borrow` is the sum when ADC takes the carry that undoes the borrow; with the carry of the SBC in its
place the sum is off by the difference of the two. -/
theorem sbcThenAdcRestores : Obligations.SbcThenAdcRestores := by
  intro a m f r
  have borrow : r.1.toNat + m.toNat + (1 - f.c.toNat) = a.toNat + 256 * (1 - r.2.c.toNat) := sbcBinary_add_borrow a m f
  have := a.isLt
  have := f.c.toNat_le
  have := r.2.c.toNat_le
  refine ⟨BitVec.eq_of_toNat_eq ?restored, ?carry, ?untouched⟩
  case restored =>
    rw [adcBinary_toNat, not_toNat, borrow]
    omega
  case carry =>
    rw [adcBinary_c, not_toNat, borrow]
    cases r.2.c
    case false => exact decide_eq_true (show 255 < a.toNat + 256 by omega)
    case true => exact decide_eq_false (show ¬ 255 < a.toNat by omega)
  case untouched =>
    rw [← BitVec.toNat_inj, adcBinary_toNat, ne_iff_toNat_add]
    omega

/-! ### Decimal digits -/

/-- A sum of decimal digits with the 6 that carries it past the unused values of a nibble (43_arithmetic.md R181). -/
def addAdjust (x : Nat) : Nat := if 9 < x then x + 6 else x

/-- The same for a difference that borrows (43_arithmetic.md R184). -/
def subAdjust (x : Int) : Int := if x < 0 then x - 6 else x

theorem addAdjust_mod {x : Nat} (h : x ≤ 19) : addAdjust x % 16 = x % 10 := by
  unfold addAdjust
  split <;> omega

theorem addAdjust_carry (x : Nat) : 15 < addAdjust x ↔ 10 ≤ x := by
  unfold addAdjust
  split <;> omega

theorem subAdjust_mod {x : Int} (low : -10 ≤ x) (high : x ≤ 9) : subAdjust x % 16 = x % 10 := by
  unfold subAdjust
  split <;> omega

theorem subAdjust_borrow (x : Int) : subAdjust x < 0 ↔ x < 0 := by
  unfold subAdjust
  split <;> omega

theorem and_0x0F (n : Nat) : n &&& 0x0F = n % 16 := Nat.and_two_pow_sub_one_eq_mod n 4

theorem shiftRight_four (n : Nat) : n >>> 4 = n / 16 := Nat.shiftRight_eq_div_pow n 4

/-- The byte made of two nibbles. -/
theorem nibbles_toNat (h : Nat) {l : Nat} (hl : l < 16) :
    (BitVec.ofNat 8 (h <<< 4 ||| l)).toNat = (16 * h + l) % 256 := by
  rw [BitVec.toNat_ofNat, ← Nat.shiftLeft_add_eq_or_of_lt (i := 4) hl, Nat.shiftLeft_eq]
  omega

/-! ### Decimal addition -/

/-- The low digit of the sum, adjusted. -/
def adcLow (a m : Byte) (f : Flags) : Nat := addAdjust (a.toNat % 16 + m.toNat % 16 + f.c.toNat)

/-- The high digit of the sum, with the carry of the low one, adjusted. -/
def adcHigh (a m : Byte) (f : Flags) : Nat :=
  addAdjust (a.toNat / 16 + m.toNat / 16 + if 15 < adcLow a m f then 1 else 0)

theorem adcDecimal_eq (a m : Byte) (f : Flags) : adcDecimal a m f =
    (BitVec.ofNat 8 (adcHigh a m f <<< 4 ||| adcLow a m f % 16),
      { (adcBinary a m f).2 with c := decide (15 < adcHigh a m f) }) := by
  simp only [adcDecimal, and_0x0F, shiftRight_four]
  rfl

theorem adcDecimal_toNat (a m : Byte) (f : Flags) :
    (adcDecimal a m f).1.toNat = (16 * adcHigh a m f + adcLow a m f % 16) % 256 := by
  rw [adcDecimal_eq, nibbles_toNat _ (Nat.mod_lt _ (by decide))]

theorem adcDecimal_flags (a m : Byte) (f : Flags) :
    (adcDecimal a m f).2 = { (adcBinary a m f).2 with c := decide (15 < adcHigh a m f) } := by
  rw [adcDecimal_eq]

/-! ### Decimal subtraction -/

/-- The low digit of the difference, adjusted. -/
def sbcLow (a m : Byte) (f : Flags) : Int :=
  subAdjust ((a.toNat % 16 : Nat) - (m.toNat % 16 : Nat) - (1 - f.c.toNat))

/-- The high digit of the difference, less the borrow of the low one, adjusted. -/
def sbcHigh (a m : Byte) (f : Flags) : Int :=
  subAdjust ((a.toNat / 16 : Nat) - (m.toNat / 16 : Nat) - if sbcLow a m f < 0 then 1 else 0)

theorem sbcDecimal_eq (a m : Byte) (f : Flags) : sbcDecimal a m f =
    (BitVec.ofNat 8 ((sbcHigh a m f % 16).toNat <<< 4 ||| (sbcLow a m f % 16).toNat), (sbcBinary a m f).2) := by
  simp only [sbcDecimal, and_0x0F, shiftRight_four]
  rfl

theorem sbcDecimal_toNat (a m : Byte) (f : Flags) :
    ((sbcDecimal a m f).1.toNat : Int) = 16 * (sbcHigh a m f % 16) + sbcLow a m f % 16 := by
  rw [sbcDecimal_eq, nibbles_toNat _ (by omega)]
  omega

theorem sbcDecimal_flags (a m : Byte) (f : Flags) : (sbcDecimal a m f).2 = (sbcBinary a m f).2 := rfl

/-! ### Valid decimal operands -/

/-- Both nibbles are decimal digits. -/
def IsBcd (v : Byte) : Prop := v.toNat % 16 ≤ 9 ∧ v.toNat / 16 ≤ 9

/-- A byte read as two decimal digits. -/
def decimalValue (v : Byte) : Nat := 10 * (v.toNat / 16) + v.toNat % 16

/-- The sum as decimal numbers. -/
def decimalSum (a m : Byte) (f : Flags) : Nat := decimalValue a + decimalValue m + f.c.toNat

/-- The difference as decimal numbers. -/
def decimalDiff (a m : Byte) (f : Flags) : Int := (decimalValue a : Int) - decimalValue m - (1 - f.c.toNat)

/-- The byte whose nibbles are the last two decimal digits of `n`. -/
theorem bcd_of_digits {v : Byte} {n : Int} (h : (v.toNat : Int) = 16 * (n / 10 % 10) + n % 10) :
    IsBcd v ∧ (decimalValue v : Int) = n % 100 := by
  unfold IsBcd decimalValue
  omega

section
variable {a m : Byte} (ha : IsBcd a) (hm : IsBcd m) (f : Flags)
include ha hm

theorem adcLow_mod : adcLow a m f % 16 = decimalSum a m f % 10 := by
  have := f.c.toNat_le
  unfold IsBcd at ha hm
  rw [adcLow, addAdjust_mod (by omega), decimalSum, decimalValue, decimalValue]
  omega

theorem adcHigh_eq : adcHigh a m f = addAdjust (decimalSum a m f / 10) := by
  have := f.c.toNat_le
  unfold IsBcd at ha hm
  simp only [adcHigh, adcLow, addAdjust_carry, decimalSum, decimalValue]
  congr 1
  split <;> omega

theorem adcDecimal_toNat_of_bcd : (adcDecimal a m f).1.toNat =
    16 * (decimalSum a m f / 10 % 10) + decimalSum a m f % 10 := by
  have := f.c.toNat_le
  have high : adcHigh a m f % 16 = decimalSum a m f / 10 % 10 := by
    rw [adcHigh_eq ha hm, addAdjust_mod]
    unfold IsBcd at ha hm
    unfold decimalSum decimalValue
    omega
  rw [adcDecimal_toNat, adcLow_mod ha hm, ← high]
  omega

theorem adcDecimal_c_of_bcd : (adcDecimal a m f).2.c = true ↔ 100 ≤ decimalSum a m f := by
  rw [adcDecimal_flags, adcHigh_eq ha hm, decide_eq_true_iff, addAdjust_carry]
  omega

theorem sbcLow_mod : sbcLow a m f % 16 = decimalDiff a m f % 10 := by
  have := f.c.toNat_le
  unfold IsBcd at ha hm
  rw [sbcLow, subAdjust_mod (by omega) (by omega), decimalDiff, decimalValue, decimalValue]
  omega

theorem sbcHigh_mod : sbcHigh a m f % 16 = decimalDiff a m f / 10 % 10 := by
  have := f.c.toNat_le
  unfold IsBcd at ha hm
  simp only [sbcHigh, sbcLow, subAdjust_borrow, decimalDiff, decimalValue]
  rw [subAdjust_mod]
  all_goals split <;> omega

/-- Valid decimal bytes are ordered as the numbers they stand for. -/
theorem sbcBinary_c_of_bcd : (sbcBinary a m f).2.c = false ↔ decimalDiff a m f < 0 := by
  have := f.c.toNat_le
  unfold IsBcd at ha hm
  rw [← Bool.not_eq_true, sbcBinary_c_iff, decimalDiff, decimalValue, decimalValue]
  omega

end

/-- Settles O13: the nibbles are those of the definition, and of valid decimal operands they are the digits of the sum. -/
theorem adcDecimalLaw : Obligations.AdcDecimalLaw := by
  refine fun a m f => ⟨adcDecimal_toNat a m f, adcDecimal_flags a m f, fun hal hah hml hmh => ?_⟩
  have ha : IsBcd a := ⟨hal, hah⟩
  have hm : IsBcd m := ⟨hml, hmh⟩
  obtain ⟨⟨low, high⟩, value⟩ := bcd_of_digits (n := decimalSum a m f) (mod_cast adcDecimal_toNat_of_bcd ha hm f)
  exact ⟨low, high, Nat.cast_injective value, adcDecimal_c_of_bcd ha hm f⟩

/-- Settles O15: the nibbles are those of the definition, and of valid decimal operands they are the digits of the difference. -/
theorem sbcDecimalLaw : Obligations.SbcDecimalLaw := by
  refine fun a m f => ⟨sbcDecimal_toNat a m f, sbcDecimal_flags a m f, fun hal hah hml hmh => ?_⟩
  have ha : IsBcd a := ⟨hal, hah⟩
  have hm : IsBcd m := ⟨hml, hmh⟩
  have digits := sbcDecimal_toNat a m f
  rw [sbcHigh_mod ha hm, sbcLow_mod ha hm] at digits
  obtain ⟨⟨low, high⟩, value⟩ := bcd_of_digits digits
  exact ⟨low, high, value, sbcBinary_c_of_bcd ha hm f⟩

end Sys2Proof.Machine
end

section
/-! SUPPORT. The instructions that add, subtract, compare, increment and decrement, each as the whole state it leaves
(43_arithmetic.md R183, R185–R194, 46_undocumented.md R273), and what a read-modify-write instruction does, said once for all
addressing modes (20_memory.md R78). -/

namespace Sys2Proof.Machine

/-! ### Addition, subtraction and comparison -/

/-- Settles O11: `exec_of_readOperation` at `State.adc` and `State.sbc`, which choose by `D` (`adcResult`, `sbcResult`). -/
theorem adcSbcResults : Obligations.AdcSbcResults := by
  refine ⟨by decide, by decide, by decide, fun i s => ⟨?adc, ?sbc, ?usbc⟩⟩
  all_goals
    intro hm
    exact exec_of_readOperation (by rw [hm]; rfl) s

/-- The flags of a comparison, `Z` by equality of the operands (43_arithmetic.md R186). -/
theorem compareFlags_eq (reg m : Byte) (f : Flags) : compareFlags reg m f =
    { f with n := (reg - m).getLsbD 7, z := decide (reg = m), c := decide (m.toNat ≤ reg.toNat) } := by
  rw [← sub_eq_zero_byte]
  rfl

/-- Settles O16: `exec_of_readOperation` at the comparison of each mnemonic, and `compareFlags_eq`. -/
theorem compareResults : Obligations.CompareResults := by
  refine ⟨by decide, by decide, by decide, fun i s => ⟨?cmp, ?cpx, ?cpy⟩⟩
  all_goals
    intro hm
    rw [← compareFlags_eq]
    exact exec_of_readOperation (by rw [hm]; rfl) s

/-! ### Read-modify-write instructions -/

/-- How a read-modify-write instruction changes the byte it reads, and what it then does with the byte written. -/
def modifyOperation : Mnemonic → Option ((Byte → Flags → Byte × Flags) × (State → Byte → State))
  | .asl => some (aslByte, State.flagNZ)
  | .lsr => some (lsrByte, State.flagNZ)
  | .rol => some (rolByte, State.flagNZ)
  | .ror => some (rorByte, State.flagNZ)
  | .inc => some (incByte, State.flagNZ)
  | .dec => some (decByte, State.flagNZ)
  | .slo => some (aslByte, State.orA)
  | .rla => some (rolByte, State.andA)
  | .sre => some (lsrByte, State.eorA)
  | .rra => some (rorByte, State.adc)
  | .dcp => some (decByte, State.cmpA)
  | .isc => some (incByte, State.sbc)
  | _ => none

/-- The state after the one read, which left `u`, and the one write: the memory, the PIA and the output history as the write leaves
them, and the flags of the changed byte. -/
def State.modified (s u : State) (a : Addr) (t : Byte × Flags) : State := { s with
  mem := (u.memWrite a t.1).mem, pia := (u.memWrite a t.1).pia, output := (u.memWrite a t.1).output, flags := t.2 }

theorem memRead_memWrite_frame (s : State) (a b : Addr) (v : Byte) : (s.memRead a).2.memWrite b v = { s with
    mem := ((s.memRead a).2.memWrite b v).mem, pia := ((s.memRead a).2.memWrite b v).pia,
    output := ((s.memRead a).2.memWrite b v).output } := by
  refine (memWrite_frame (s.memRead a).2 b v).trans ?_
  generalize (s.memRead a).2.memWrite b v = w
  rw [memRead_frame]

theorem rmwOp_of_state {s : State} {base : Nat} {e : Ea} {modify : Byte → Flags → Byte × Flags}
    {after : State → Byte → State} (he : e.state = s) :
    rmwOp base e modify after = .next ((after
      (s.modified (s.memRead e.addr).2 e.addr (modify (s.memRead e.addr).1 s.flags))
      (modify (s.memRead e.addr).1 s.flags).1).charge base) := by
  rw [rmwOp_eq, he, memRead_memWrite_frame]
  rfl

/-- A read-modify-write instruction reads its operand byte, writes the changed byte back to the same address, does its operation with
the byte written and adds the cost of its form. -/
theorem exec_of_modifyOperation {i : Instr} {modify : Byte → Flags → Byte × Flags} {after : State → Byte → State}
    (h : modifyOperation i.mnemonic = some (modify, after)) (hm : i.mode ≠ .acc) (s : State) :
    exec i s = .next ((after
      (s.modified (operandRead i s).2 (effectiveAddress i s).addr (modify (operandRead i s).1 s.flags))
      (modify (operandRead i s).1 s.flags).1).charge (costOf i s)) := by
  cases i
  -- as in `exec_of_readOperation`: the read-modify-write instructions remain, each with its addressing mode and its cycles
  all_goals simp [modifyOperation, Instr.mnemonic] at h
  all_goals obtain ⟨rfl, rfl⟩ := h; simp [operandRead, costOf, Instr.mode, effectiveAddress, encode] at hm ⊢
  all_goals exact rmwOp_of_state (by simp)

/-- INC and DEC have no form that works on a register. -/
theorem mode_of_inc_dec {i : Instr} (h : i.mnemonic = .inc ∨ i.mnemonic = .dec) : i.mode ≠ .acc := by
  intro hm
  cases i <;> simp [Instr.mnemonic, Instr.mode] at h hm

/-- Settles O17: the memory forms are `exec_of_modifyOperation` at `incByte` and `decByte`, the register forms implied instructions of 2
cycles. -/
theorem incDecResults : Obligations.IncDecResults := by
  refine ⟨by decide, by decide, by decide, by decide, by decide, by decide, fun i s => ⟨?inc, ?dec⟩,
    ?dex, ?dey, ?inx, ?iny⟩
  case inc =>
    intro hm
    exact exec_of_modifyOperation (modify := incByte) (after := State.flagNZ) (by rw [hm]; rfl) (mode_of_inc_dec (.inl hm)) s
  case dec =>
    intro hm
    exact exec_of_modifyOperation (modify := decByte) (after := State.flagNZ) (by rw [hm]; rfl) (mode_of_inc_dec (.inr hm)) s
  all_goals exact fun s => impliedOp_eq 2 _

end Sys2Proof.Machine
end

section
/-! SUPPORT. The logic, shift and rotate instructions, each as the whole state it leaves, and what the shifts and rotates are: a
doubling, a halving, and the two directions of one ring of nine bits (44_logic_shift.md R200–R208). -/

namespace Sys2Proof.Machine

/-! ### Logic and bit test -/

/-- Settles O18: `exec_of_readOperation` at the operation of each mnemonic; BIT's flags are `bitFlags`. -/
theorem logicResults : Obligations.LogicResults := by
  refine ⟨by decide, by decide, by decide, by decide, fun i s => ⟨?and, ?ora, ?eor, ?bit⟩⟩
  all_goals
    intro hm
    exact exec_of_readOperation (by rw [hm]; rfl) s

/-! ### Shifts and rotates -/

/-- An instruction that changes `A` puts the changed byte back into `A` and sets its flags, touches no memory and adds the cost of
its form (40_addressing.md R131). -/
theorem exec_of_modifyOperation_acc {i : Instr} {modify : Byte → Flags → Byte × Flags} {after : State → Byte → State}
    (h : modifyOperation i.mnemonic = some (modify, after)) (hm : i.mode = .acc) (s : State) :
    exec i s = .next { s with
      a := (modify (operandRead i s).1 s.flags).1,
      flags := (modify (operandRead i s).1 s.flags).2.setNZ (modify (operandRead i s).1 s.flags).1,
      cycles := s.cycles + costOf i s } := by
  cases i
  -- the accumulator forms remain, each with its operation and its cycles
  all_goals simp [Instr.mode] at hm
  all_goals simp [modifyOperation, Instr.mnemonic] at h
  all_goals obtain ⟨rfl, -⟩ := h; simp [operandRead, costOf, Instr.mode, effectiveAddress, encode]
  all_goals exact accOp_eq 2 s _

/-- A shift or rotate changes its operand byte where it was read, in `A` or in memory, and sets the flags of the changed byte. -/
theorem exec_of_shift {i : Instr} {modify : Byte → Flags → Byte × Flags}
    (h : modifyOperation i.mnemonic = some (modify, State.flagNZ)) (s : State) :
    let t := modify (operandRead i s).1 s.flags
    let w := (operandRead i s).2.memWrite (effectiveAddress i s).addr t.1
    exec i s = .next (if i.mode = .acc then { s with a := t.1, flags := t.2.setNZ t.1, cycles := s.cycles + costOf i s }
      else { s with
        mem := w.mem, pia := w.pia, output := w.output, flags := t.2.setNZ t.1, cycles := s.cycles + costOf i s }) := by
  split
  case isTrue acc => exact exec_of_modifyOperation_acc h acc s
  case isFalse memory => exact exec_of_modifyOperation h memory s

/-- Settles O19: `exec_of_shift` at the operation of each mnemonic. -/
theorem shiftResults : Obligations.ShiftResults := by
  refine ⟨by decide, by decide, by decide, by decide, fun i s => ⟨?asl, ?lsr, ?rol, ?ror⟩⟩
  case asl => exact fun hm => exec_of_shift (modify := aslByte) (by rw [hm]; rfl) s
  case lsr => exact fun hm => exec_of_shift (modify := lsrByte) (by rw [hm]; rfl) s
  case rol => exact fun hm => exec_of_shift (modify := rolByte) (by rw [hm]; rfl) s
  case ror => exact fun hm => exec_of_shift (modify := rorByte) (by rw [hm]; rfl) s

/-! ### Shifts as numbers -/

theorem aslByte_toNat (v : Byte) (f : Flags) : (aslByte v f).1.toNat = 2 * v.toNat % 256 := by
  rw [aslByte, BitVec.toNat_shiftLeft, Nat.shiftLeft_eq, Nat.mul_comm]

theorem lsrByte_toNat (v : Byte) (f : Flags) : (lsrByte v f).1.toNat = v.toNat / 2 := by
  rw [lsrByte, BitVec.toNat_ushiftRight, Nat.shiftRight_eq_div_pow]

/-- LSR shifts out the remainder of the halving. -/
theorem lsrByte_flags (v : Byte) (f : Flags) : (lsrByte v f).2 = { f with c := decide (v.toNat % 2 = 1) } := by
  rw [lsrByte, BitVec.getLsbD, Nat.testBit_zero]

/-! ### Rotates as a ring -/

/-- The ring of nine bits the rotates turn: bits 0 to 7 are the operand, bit 8 is `C` (44_logic_shift.md R208). -/
def ringBit (p : Byte × Flags) (k : Fin 9) : Bool := if k = 8 then p.2.c else p.1.getLsbD k

/-- ROL turns the ring up by one bit. -/
theorem ringBit_rolByte (p : Byte × Flags) (k : Fin 9) : ringBit (Function.uncurry rolByte p) k = ringBit p (k - 1) := by
  have below : (-1 : Fin 9) = 8 := rfl
  -- each of the nine places, with `C` set and with `C` clear
  cases hc : p.2.c
  all_goals fin_cases k <;> simp [ringBit, rolByte, Function.uncurry, hc, below]

/-- ROR turns the ring down by one bit. -/
theorem ringBit_rorByte (p : Byte × Flags) (k : Fin 9) : ringBit (Function.uncurry rorByte p) k = ringBit p (k + 1) := by
  cases hc : p.2.c
  all_goals fin_cases k <;> simp [ringBit, rorByte, Function.uncurry, hc]

/-- The ring and the flags other than `C` are the whole of an operand and its flags. -/
theorem eq_of_ringBit {p q : Byte × Flags} (ring : ∀ k, ringBit p k = ringBit q k)
    (flags : { p.2 with c := q.2.c } = q.2) : p = q := by
  have carry : p.2.c = q.2.c := ring 8
  have operand : p.1 = q.1 := BitVec.eq_of_getLsbD_eq fun k hk => by
    have apart : (⟨k, by omega⟩ : Fin 9) ≠ 8 := by simp [Fin.ext_iff]; omega
    simpa [ringBit, apart] using ring ⟨k, by omega⟩
  exact Prod.ext operand ((congrArg (fun c => { p.2 with c := c }) carry).trans flags)

theorem rorByte_leftInverse_rolByte : Function.LeftInverse (Function.uncurry rorByte) (Function.uncurry rolByte) := by
  refine fun p => eq_of_ringBit (fun k => ?_) rfl
  rw [ringBit_rorByte, ringBit_rolByte, add_sub_cancel_right]

theorem rolByte_leftInverse_rorByte : Function.LeftInverse (Function.uncurry rolByte) (Function.uncurry rorByte) := by
  refine fun p => eq_of_ringBit (fun k => ?_) rfl
  rw [ringBit_rolByte, ringBit_rorByte, sub_add_cancel]

/-- `n` ROLs turn the ring up by `n` bits. -/
theorem ringBit_rolByte_iterate (n : Nat) (p : Byte × Flags) (k : Fin 9) :
    ringBit ((Function.uncurry rolByte)^[n] p) k = ringBit p ((· - 1)^[n] k) := by
  induction n generalizing p with
  | zero => rfl
  | succ n ih => rw [Function.iterate_succ_apply, ih, ringBit_rolByte, Function.iterate_succ_apply']

/-- No number of ROLs changes a flag other than `C`. -/
theorem rolByte_iterate_flags (n : Nat) (p : Byte × Flags) (c : Bool) :
    { ((Function.uncurry rolByte)^[n] p).2 with c := c } = { p.2 with c := c } := by
  induction n generalizing p with
  | zero => rfl
  | succ n ih => exact ih (Function.uncurry rolByte p)

/-- Nine ROLs turn the ring once round. -/
theorem rolByte_iterate_nine (p : Byte × Flags) : (Function.uncurry rolByte)^[9] p = p := by
  refine eq_of_ringBit (fun k => ?_) (rolByte_iterate_flags 9 p p.2.c)
  have round : ∀ k : Fin 9, (· - 1)^[9] k = k := by decide
  rw [ringBit_rolByte_iterate, round]

/-- Settles O28: the shifts as numbers, the rotates as turns of a ring of nine bits. Eight ROLs of operand 0x01
leave its 1 in `C`. -/
theorem shiftLaws : Obligations.ShiftLaws := by
  refine ⟨fun v f => ⟨?rorAfterRol, ?rolAfterRor, aslByte_toNat v f, rfl, lsrByte_toNat v f, lsrByte_flags v f, ?nineRols⟩,
    ?notEightRols⟩
  case rorAfterRol => exact rorByte_leftInverse_rolByte (v, f)
  case rolAfterRor => exact rolByte_leftInverse_rorByte (v, f)
  case nineRols => exact rolByte_iterate_nine (v, f)
  case notEightRols => exact ⟨0x01, Flags.cleared, by decide⟩

end Sys2Proof.Machine
end

section
/-! SUPPORT. Jumps, subroutines, interrupt entry and return, branches, flag instructions and no-ops, each as the whole state it leaves
(45_control_flow_flags.md R220–R247, 46_undocumented.md R275–R279), and the entry to an interrupt undone by the return. -/

namespace Sys2Proof.Machine

/-! ### Jumps -/

/-- A pointer read changes the PIA at most. -/
theorem readPointer_frame (s : State) (p : Addr) : (s.readPointer p).2 = { s with pia := (s.readPointer p).2.pia } := by
  rw [State.readPointer]
  refine (memRead_frame (s.memRead p).2 _).trans ?_
  generalize (s.memRead p).2.memRead _ = second
  rw [memRead_frame]

/-- A jump whose effective address was found with an effect on the PIA at most. -/
theorem jumpOp_of_frame {s : State} {base : Nat} {e : Ea} (he : e.state = { s with pia := e.state.pia }) :
    jumpOp base e = .next { s with pc := e.addr, pia := e.state.pia, cycles := s.cycles + base } := by
  rw [jumpOp, he]
  rfl

/-- Both forms of JMP go to their effective address and add the cost of the form (45_control_flow_flags.md R220). -/
theorem exec_of_jmp {i : Instr} (h : i.mnemonic = .jmp) (s : State) : exec i s = .next { s with
    pc := (effectiveAddress i s).addr, pia := (effectiveAddress i s).state.pia, cycles := s.cycles + costOf i s } := by
  cases i
  -- the row of each constructor decides the mnemonic: the two jumps remain
  all_goals simp [Instr.mnemonic] at h
  all_goals simp [costOf, Instr.mode, effectiveAddress, encode]
  case jmpAbs a16 => exact jumpOp_of_frame (e := eaAbs a16 s) rfl
  case jmpInd a16 => exact jumpOp_of_frame (e := eaInd a16 s) (readPointer_frame s a16)

/-- Settles O22: `exec_of_jmp`, and the two subroutine instructions as the states they leave. -/
theorem jumpResults : Obligations.JumpResults := by
  refine ⟨by decide, by decide, by decide, fun i s => ?jmp, exec_jsr, exec_rts⟩
  case jmp => exact fun hm => exec_of_jmp hm s

/-! ### Interrupt entry and return -/

/-- Taking an interrupt through a vector in ROM (`interrupt_eq`), each stack address from the `S` before the entry. -/
theorem interrupt_eq_of_isRom (s : State) (vector : Addr) (b : Bool) (h0 : isRom vector.toNat = true)
    (h1 : isRom (vector + 1).toNat = true) : s.interrupt vector b = { s with
      mem := ((s.mem.write (256 + s.sp.toNat) (hi s.pc)).write (256 + (s.sp - 1).toNat) (lo s.pc)).write
        (256 + (s.sp - 2).toNat) (statusByte b s.flags)
      sp := s.sp - 3, flags := { s.flags with i := true }
      pc := join (s.mem.read (vector + 1).toNat) (s.mem.read vector.toNat) } := by
  have two : s.sp - 1 - 1 = s.sp - 2 := sub_sub s.sp 1 1
  have three : s.sp - 2 - 1 = s.sp - 3 := sub_sub s.sp 2 1
  rw [interrupt_eq s vector b h0 h1, two, three]

/-- Three pushes leave three different bytes, though `S` may wrap between them. -/
theorem read_of_three_pushes (m : Memory) (p u v w : Byte) :
    let pushed := ((m.write (256 + p.toNat) u).write (256 + (p - 1).toNat) v).write (256 + (p - 2).toNat) w
    pushed.read (256 + p.toNat) = u ∧ pushed.read (256 + (p - 1).toNat) = v ∧ pushed.read (256 + (p - 2).toNat) = w := by
  have first : 256 + (p - 2).toNat ≠ 256 + p.toNat := by bv_omega
  have second : 256 + (p - 2).toNat ≠ 256 + (p - 1).toNat := by bv_omega
  refine ⟨?_, ?_, Memory.read_write_same _ _ w⟩
  · rw [Memory.read_write_other _ _ _ _ first, read_first_of_two_pushes]
  · rw [Memory.read_write_other _ _ _ _ second, Memory.read_write_same]

/-- Returning from an interrupt pulls the flags, then `PC` low byte first, and goes where it points (45_control_flow_flags.md R223). -/
theorem returnFromInterrupt_eq (s : State) : s.returnFromInterrupt = { s with
    flags := flagsOfByte (s.mem.read (256 + (s.sp + 1).toNat)),
    pc := join (s.mem.read (256 + (s.sp + 3).toNat)) (s.mem.read (256 + (s.sp + 2).toNat)), sp := s.sp + 3 } := by
  have two : s.sp + 1 + 1 = s.sp + 2 := add_assoc s.sp 1 1
  have three : s.sp + 2 + 1 = s.sp + 3 := add_assoc s.sp 2 1
  simp only [State.returnFromInterrupt, pull_eq, two, three]

/-- Settles O23: BRK is the interrupt entry (`interrupt_eq_of_isRom`) from the address behind the byte it skips, RTI the return from one. -/
theorem brkRtiResults : Obligations.BrkRtiResults := by
  refine ⟨by decide, by decide, fun s => ?brk, fun s => ?rti⟩
  case brk =>
    change execBrk s = _
    rw [execBrk, interrupt_eq_of_isRom _ irqVector true (by decide) (by decide)]
    rfl
  case rti =>
    change execRti s = _
    rw [execRti, returnFromInterrupt_eq]
    rfl

/-- Settles O44: what is pulled is what was pushed, though `S` may wrap between the pushes: the flags (`flagsOfByte_statusByte`), then
the two bytes of `PC`. -/
theorem rtiUndoesInterrupt : Obligations.RtiUndoesInterrupt := by
  intro s vector b hv
  have rom : isRom vector.toNat = true ∧ isRom (vector + 1).toNat = true := by
    rcases hv with rfl | rfl <;> decide
  obtain ⟨high, low, status⟩ := read_of_three_pushes s.mem s.sp (hi s.pc) (lo s.pc) (statusByte b s.flags)
  have up1 : s.sp - 3 + 1 = s.sp - 2 := by bv_omega
  have up2 : s.sp - 3 + 2 = s.sp - 1 := by bv_omega
  have up3 : s.sp - 3 + 3 = s.sp := sub_add_cancel s.sp 3
  rw [returnFromInterrupt_eq, interrupt_eq_of_isRom s vector b rom.1 rom.2]
  simp only [up1, up2, up3, high, low, status, flagsOfByte_statusByte, join_hi_lo]

/-! ### Branches -/

/-- The target of a branch, from the address after it and the signed offset (40_addressing.md R142). -/
theorem branchTarget_eq (pc : Addr) (d8 : Byte) : pc + signExtend8 d8 = BitVec.ofInt 16 (pc.toNat + d8.toInt) := by
  rw [BitVec.ofInt_add, BitVec.ofInt_natCast, BitVec.ofNat_toNat, BitVec.setWidth_eq]
  rfl

/-- A branch taken costs 3, or 4 into another page (45_control_flow_flags.md R235). -/
theorem branchCost_eq (target pc : Addr) :
    (2 + 1 + if pageDiffers target pc then 1 else 0) = if target.toNat / 256 = pc.toNat / 256 then 3 else 4 := by
  rw [if_congr (pageDiffers_iff target pc) rfl rfl, ite_not, apply_ite (2 + 1 + ·)]

/-- The operation of a branch with its target and cost as numbers (45_control_flow_flags.md R225, R235). -/
theorem branchOp_eq_of_target (cond : Bool) (d8 : Byte) (s : State) :
    let target := BitVec.ofInt 16 (s.pc.toNat + d8.toInt)
    branchOp cond d8 s = .next
      (if cond then { s with
          pc := target, cycles := s.cycles + (if target.toNat / 256 = s.pc.toNat / 256 then 3 else 4) }
        else { s with cycles := s.cycles + 2 }) := by
  intro target
  rw [branchOp_eq, branchCost_eq, branchTarget_eq]

/-- Settles O24: the eight are `branchOp` and differ in the condition alone. -/
theorem branchResults : Obligations.BranchResults := by
  refine ⟨by decide, by decide, by decide, by decide, by decide, by decide, by decide, by decide, fun d8 s => ?_⟩
  have branch (cond : Bool) := branchOp_eq_of_target cond d8 s
  exact ⟨branch (!s.flags.c), branch s.flags.c, branch s.flags.z, branch s.flags.n, branch (!s.flags.z), branch (!s.flags.n),
    branch (!s.flags.v), branch s.flags.v⟩

/-! ### Flag instructions -/

/-- Settles O25: the seven are implied instructions of 2 cycles, each with its own assignment. -/
theorem flagInstructionResults : Obligations.FlagInstructionResults := by
  refine ⟨by decide, by decide, by decide, by decide, by decide, by decide, by decide, ?clc, ?cld, ?cli, ?clv, ?sec, ?sed, ?sei⟩
  all_goals exact fun s => impliedOp_eq 2 _

/-! ### No-ops -/

theorem skipOp_of_state {s : State} {base : Nat} {penalty : Bool} {e : Ea} (he : e.state = s) :
    skipOp base penalty e = .next { s with cycles := s.cycles + (base + pagePenalty penalty e.crossed) } := by
  rw [skipOp_eq, he]
  rfl

/-- A no-op adds the cost of its form and does nothing else; no mode of a no-op has a side effect in its addressing
(46_undocumented.md R277, R279). -/
theorem exec_of_nop {i : Instr} (h : i.mnemonic = .nop) (s : State) :
    exec i s = .next { s with cycles := s.cycles + costOf i s } := by
  cases i
  -- the no-ops remain, each with its addressing mode, its cycles and its penalty
  all_goals simp [Instr.mnemonic] at h
  all_goals simp [costOf, Instr.mode, effectiveAddress, encode]
  case nop04 _ | nop0C _ | nop14 _ | nop1C _ | nop34 _ | nop3C _ | nop44 _ | nop54 _ | nop5C _ | nop64 _ | nop74 _ |
      nop7C _ | nop93 _ | nop9B _ | nop9C _ | nop9E _ | nop9F _ | nopD4 _ | nopDC _ | nopF4 _ | nopFC _ =>
    exact skipOp_of_state (by simp)
  -- the others have no address to find
  all_goals exact impliedOp_eq 2 s

theorem fetchByte_opcode (s : State) : s.fetchByte.2.opcode = s.opcode := memRead_opcode s s.pc

/-- Every fetch latches the opcode and moves `PC` past the instruction, skipped operand or not (10_state.md R25, R31). -/
theorem fetch_opcode_pc (s : State) : s.fetch.2.opcode = s.fetchByte.1 ∧
    s.fetch.2.pc = s.pc + BitVec.ofNat 16 (rowOf s.fetchByte.1).mode.length := by
  rw [rowOf_length]
  cases h : (rowOf s.fetchByte.1).build with
  | f1 i =>
    rw [fetch_f1 h]
    exact ⟨rfl, rfl⟩
  | f2 k =>
    rw [fetch_f2 h, show s.pc + BitVec.ofNat 16 (formatLength (.f2 k)) = s.pc + 1 + 1 from add_two_addr s.pc]
    split
    · exact ⟨rfl, rfl⟩
    · exact ⟨fetchByte_opcode s.latched, rfl⟩
  | f3 k =>
    rw [fetch_f3 h, show s.pc + BitVec.ofNat 16 (formatLength (.f3 k)) = s.pc + 1 + 1 + 1 from add_three_addr s.pc]
    exact ⟨(fetchByte_opcode _).trans (fetchByte_opcode s.latched), rfl⟩

/-- The five immediate no-ops of 46_undocumented.md R276 are no-ops in mode `imm`. -/
theorem rowOf_immediate_nop : ∀ op ∈ ([0x80, 0x82, 0x89, 0xC2, 0xE2] : List Byte),
    (rowOf op).mnemonic = .nop ∧ (rowOf op).mode = .imm := by decide

/-- Settles O26: `exec_of_nop`, `fetch_opcode_pc`, and the skipped operand as in the statement about every fetch (O36). -/
theorem noOpResults : Obligations.NoOpResults := by
  refine ⟨by decide, fun i s => ?exec, fun s => ⟨fun _ => fetch_opcode_pc s, fun hop => ?skipped⟩⟩
  case exec => exact fun hm => exec_of_nop hm s
  case skipped =>
    obtain ⟨nop, imm⟩ := rowOf_immediate_nop _ hop
    obtain ⟨-, -, -, skips⟩ := fetchReadsTheBytesAtPc
    exact skips s nop imm

end Sys2Proof.Machine
end

section
/-! SUPPORT. The undocumented instructions that combine two operations: the read-modify-write instructions that go on to the
accumulator (46_undocumented.md R261–R264, R267, R268) and those on an immediate operand (R269–R272), each as the whole state it
leaves. -/

namespace Sys2Proof.Machine

/-! ### Read-modify-write, then the accumulator -/

/-- Only the documented shifts and rotates have a form that works on `A` (40_addressing.md R131). -/
theorem mode_ne_acc {i : Instr} (h : i.mnemonic ∉ [Mnemonic.asl, .lsr, .rol, .ror]) : i.mode ≠ .acc := by
  intro hm
  cases i
  -- the accumulator forms remain, each of a mnemonic in the list
  all_goals simp [Instr.mode] at hm
  all_goals simp [Instr.mnemonic] at h

/-- Settles O20: `exec_of_modifyOperation` at the two operations of each mnemonic. What follows the write sees the flags of the changed
byte, so RRA adds the bit rotated out; DCP's comparison is `compareFlags_eq`. -/
theorem combinedResults : Obligations.CombinedResults := by
  refine ⟨by decide, by decide, by decide, by decide, by decide, by decide, fun i s => ⟨?slo, ?rla, ?sre, ?rra, ?dcp, ?isc⟩⟩
  all_goals
    intro hm
    have next := exec_of_modifyOperation (congrArg modifyOperation hm) (mode_ne_acc (by rw [hm]; decide)) s
  case dcp =>
    rw [State.cmpA, compareFlags_eq] at next
    exact next
  all_goals exact next

/-! ### Combinations on an immediate operand -/

/-- Both encodings of ANC do the same with their operand byte, in 2 cycles (46_undocumented.md R269). -/
theorem exec_of_anc {i : Instr} (h : i.mnemonic = .anc) (s : State) :
    exec i s = .next ((s.anc (operandRead i s).1).charge 2) := by
  cases i
  -- the two encodings remain
  all_goals simp [Instr.mnemonic] at h
  all_goals simp [operandRead, Instr.mode, encode]
  case anc0B d8 | anc2B d8 => exact immOp_eq 2 d8 s State.anc

/-- A shift right clears bit 7. -/
theorem msb_shiftRight_one (v : Byte) : (v >>> 1).msb = false := by
  rw [BitVec.msb_ushiftRight]
  rfl

/-- ALR clears `N`: bit 7 of its result is always 0 (46_undocumented.md R270). -/
theorem alrResult_eq (a m : Byte) (f : Flags) : alrResult a m f = ((a &&& m) >>> 1,
    { f with n := false, z := decide ((a &&& m) >>> 1 = 0), c := (a &&& m).getLsbD 0 }) := by
  simp only [alrResult, Flags.setNZ, msb_shiftRight_one]
  rfl

theorem arrResult_of_binary {f : Flags} (h : f.d = false) (a m : Byte) : arrResult a m f = arrBinary a m f := by
  simp [arrResult, h]

theorem arrResult_of_decimal {f : Flags} (h : f.d = true) (a m : Byte) : arrResult a m f = arrDecimal a m f := if_pos h

theorem and_0x40_ne_zero (v : Byte) : (v &&& 0x40 != 0) = v.getLsbD 6 := by
  have bit : v &&& 0x40 = if v.getLsbD 6 = true then 0x40 else 0 := BitVec.and_twoPow v 6
  rw [bit]
  cases v.getLsbD 6 <;> rfl

/-- The byte ARR rotates to. -/
def arrByte (t : Byte) (f : Flags) : Byte := (t >>> 1) ||| (if f.c then 0x80 else 0x00)

/-- The decimal ARR with the digits of `A & M` as numbers (46_undocumented.md R271). -/
theorem arrDecimal_eq (a m : Byte) (f : Flags) : arrDecimal a m f =
    let t := a &&& m
    let r := arrByte t f
    let low := if 5 < t.toNat % 16 + t.toNat % 2 then (r &&& 0xF0) ||| ((r + 6) &&& 0x0F) else r
    let high := decide (5 < t.toNat / 16 + t.toNat / 16 % 2)
    (if high then low + 0x60 else low,
      { f with n := f.c, z := decide (r = 0), v := (t ^^^ r).getLsbD 6, c := high }) := by
  simp only [arrDecimal, and_0x0F, Nat.and_one_is_mod, shiftRight_four, and_0x40_ne_zero]
  rfl

/-- SBX compares `A & X` with the operand (46_undocumented.md R272). -/
theorem sbxResult_eq (a x m : Byte) (f : Flags) :
    sbxResult a x m f = ((a &&& x) - m, compareFlags (a &&& x) m f) := rfl

/-- Settles O21: each of the five is an immediate instruction of 2 cycles; what it leaves in the register and the flags is
`alrResult_eq`, `arrBinary` or `arrDecimal_eq` by `D`, and for SBX the comparison of `compareFlags_eq`. -/
theorem immediateCombinationResults : Obligations.ImmediateCombinationResults := by
  refine ⟨by decide, by decide, by decide, by decide, fun i s => ?anc, fun m s => ?alr, fun m s => ?arrBinary,
    fun m s => ?arrDecimal, fun m s => ?sbx⟩
  case anc => exact fun hm => exec_of_anc hm s
  case alr =>
    have next := immOp_eq 2 m s State.alr
    rw [State.alr, alrResult_eq] at next
    exact next
  case arrBinary =>
    intro t r hd
    have next := immOp_eq 2 m s State.arr
    rw [State.arr, arrResult_of_binary hd] at next
    exact next
  case arrDecimal =>
    intro t r low high hd
    have next := immOp_eq 2 m s State.arr
    rw [State.arr, arrResult_of_decimal hd, arrDecimal_eq] at next
    exact next
  case sbx =>
    have next := immOp_eq 2 m s State.sbx
    rw [State.sbx, sbxResult_eq, compareFlags_eq] at next
    exact next

end Sys2Proof.Machine
end

section
/-! SUPPORT. The PIA's registers as the CPU reads and writes them (60_exceptions.md R330, R331), and its device entry points: the edge a
control line selects, the port-A input, the interrupt outputs and the flush (R334, R340–R345, R354). -/

namespace Sys2Proof.Machine

/-! ### Registers -/

/-- Settles O54: each of the eight accesses is its alternative in `Pia.read` or `Pia.write`. -/
theorem piaRegisterAccess : Obligations.PiaRegisterAccess := by
  intro p v
  refine ⟨?readA, ?readControlA, ?readB, ?readControlB, ?writeA, ?writeControlA, ?writeB, ?writeControlB⟩
  all_goals rfl

/-! ### Control lines -/

/-- A change of level to `state` is the selected edge exactly if the edge bit is the new level. -/
theorem selectedEdge_iff (old state watched rising : Bool) :
    (old != state && watched && ((rising && !old && state) || (!rising && old && !state))) = true ↔
      old ≠ state ∧ watched = true ∧ rising = state := by
  cases old <;> cases state <;> simp

/-- `SetLine` moves the line, and sets its flag on the selected edge of a watched line only (60_exceptions.md R340). -/
theorem Port.setLine_eq (p : Port) (k : LineName) (state : Bool) : p.setLine k state = { p.moveLine k state with
    control := if p.level k ≠ state ∧ p.edgeWatched k = true ∧ p.risingSelected k = state then p.control ||| k.flagMask
      else p.control } := by
  have control : (p.moveLine k state).control = p.control := by cases k <;> rfl
  rw [Port.setLine, if_congr (selectedEdge_iff _ _ _ _) rfl rfl, control]
  split
  · rfl
  · rw [← control]

theorem Port.setLine_c1 (p : Port) (state : Bool) : p.setLine .c1 state = { p with
    c1 := state, prevC1 := p.c1,
    control := if p.c1 ≠ state ∧ p.control.getLsbD 1 = state then p.control ||| 0x80 else p.control } := by
  rw [Port.setLine_eq]
  simp only [Port.moveLine, Port.level, Port.edgeWatched, Port.risingSelected, LineName.flagMask, true_and]

/-- `C2` is watched in input mode, when control bit 5 is 0. -/
theorem Port.setLine_c2 (p : Port) (state : Bool) : p.setLine .c2 state = { p with
    c2 := state, prevC2 := p.c2,
    control := if p.c2 ≠ state ∧ p.control.getLsbD 5 = false ∧ p.control.getLsbD 4 = state then p.control ||| 0x40
      else p.control } := by
  rw [Port.setLine_eq]
  simp only [Port.moveLine, Port.level, Port.edgeWatched, Port.risingSelected, LineName.flagMask, Bool.not_eq_true']

/-! ### Port-A input, interrupt outputs and flush -/

/-- An input bit of port A takes the device's value, an output bit keeps the CPU's (60_exceptions.md R345). -/
theorem portAInput_getLsbD (p : Pia) (v : Byte) (k : Nat) (hk : k < 8) : (p.portAInput v).portA.output.getLsbD k =
    if p.portA.ddr.getLsbD k then p.portA.output.getLsbD k else v.getLsbD k := by
  have merged : (p.portAInput v).portA.output = (p.portA.output &&& p.portA.ddr) ||| (v &&& ~~~p.portA.ddr) := rfl
  rw [merged, BitVec.getLsbD_or, BitVec.getLsbD_and, BitVec.getLsbD_and, BitVec.getLsbD_not, decide_eq_true hk]
  cases p.portA.ddr.getLsbD k <;> simp

theorem Port.irq_iff (p : Port) : p.irq = true ↔ p.control.getLsbD 7 = true ∧ p.control.getLsbD 0 = true ∨
    p.control.getLsbD 6 = true ∧ p.control.getLsbD 3 = true ∧ p.control.getLsbD 5 = false := by
  simp only [Port.irq, Bool.or_eq_true, Bool.and_eq_true, Bool.not_eq_true', and_assoc]

/-- Settles O55: the two lines of a port (`Port.setLine_eq`), the bits of `PortAInput`, and the rest by definition. -/
theorem deviceActions : Obligations.DeviceActions := by
  refine ⟨fun p level => ⟨p.setLine_c1 level, p.setLine_c2 level⟩, fun p k level => ⟨rfl, rfl⟩,
    fun p active v => ⟨rfl, rfl, rfl, portAInput_getLsbD p v⟩, Port.irq_iff, fun s => ?flush⟩
  case flush => rfl

end Sys2Proof.Machine
end

section
/-! SUPPORT. The commands of the host, each as the state it leaves (60_exceptions.md R362–R366, R380–R387), and the two resets
(70_reset_and_hazards.md R400–R402). -/

namespace Sys2Proof.Machine

/-- A host turn is its action on the state without the turn, flushed (60_exceptions.md R354, R380). -/
theorem step_host {s t : State} {act : HostAction} {rest : List Turn} (hq : s.quantumLeft = 0)
    (ha : s.agenda = .host act :: rest) (ht : hostAct act { s with agenda := rest } = .next t) : step s = .next t.flush := by
  rw [step_turn hq ha, takeTurn, ht, endTurn]

/-! ### The Clock -/

theorem resume_of_running {s : State} (h : s.faulted = false) (now : Rat) : s.resume now = { s with
    clock := { s.clock with anchorTime := some now, anchorCycles := some s.cycles, drift := 0, paused := false } } := by
  rw [State.resume, h]
  rfl

theorem resume_of_faulted {s : State} (h : s.faulted = true) (now : Rat) :
    s.resume now = { s with clock := { s.clock with paused := false } } := by
  rw [State.resume, h]
  rfl

/-- Settles O57: the commands by definition but for the two cases of `Resume`; each as a turn by `step_host`. -/
theorem clockCommands : Obligations.ClockCommands := by
  refine ⟨fun s => ⟨rfl, rfl⟩, fun s now => ⟨fun h => resume_of_running h now, fun h => resume_of_faulted h now⟩,
    fun s now => rfl, fun s flag => rfl, ?pause, ?resumed, ?resumedFaulted, ?mode, ?measured⟩
  case pause => exact fun s rest hq ha => step_host hq ha rfl
  case resumed =>
    intro s now rest hq hf ha
    refine step_host hq ha ?_
    rw [hostAct, resume_of_running (s := { s with agenda := rest }) hf]
    rfl
  case resumedFaulted =>
    intro s now rest hq hf ha
    refine step_host hq ha ?_
    rw [hostAct, resume_of_faulted (s := { s with agenda := rest }) hf]
    rfl
  case mode => exact fun s flag rest hq ha => step_host hq ha rfl
  case measured => exact fun s difference rest hq ha => step_turn hq ha

/-! ### Reset -/

/-- `PiaReset` asks for a notification if it changed something, and keeps one asked for before (70_reset_and_hazards.md R402). -/
theorem piaReset_notifyPending_iff (p : Pia) : p.reset.notifyPending = true ↔
    p.notifyPending = true ∨ p.portA ≠ Port.cleared ∨ p.portB ≠ Port.cleared ∨ p.pb7Override = true := by
  simp only [Pia.reset, Bool.or_eq_true, bne_iff_ne, or_assoc]

/-- Settles O50: `cpuReset_eq`, once alone and once after the PIA and the devices were reset. -/
theorem resetResults : Obligations.ResetResults := by
  refine ⟨cpuReset_eq, fun p => ⟨rfl, rfl, rfl, piaReset_notifyPending_iff p⟩, fun s rest hq ha => step_host hq ha ?_⟩
  rw [hostAct, State.machineReset, cpuReset_eq]
  rfl

/-! ### StepOne -/

theorem cpuStep_hostSide {s t : State} {r : CpuResult} (h : cpuStep s = .next (r, t)) : t.hostSide = s.hostSide := by
  obtain ⟨q, u, hu, hs⟩ := cpuStep_next s
  cases h.symm.trans hu
  exact hs

/-- Only the hook halts a CPU step (60_exceptions.md R301). -/
theorem cpuStep_ne_halted {s t : State} {r : CpuResult} (hh : s.hook.allows s.pc = true) (h : cpuStep s = .next (r, t)) :
    r ≠ .halted := by
  cases hn : s.inputs.nmiPending
  · cases hi : s.irqTaken
    · obtain ⟨i, u, -, -, hc⟩ := cpuStep_instr hh hn hi
      cases h.symm.trans hc
      nofun
    · cases h.symm.trans (cpuStep_irq hh hn hi)
      nofun
  · cases h.symm.trans (cpuStep_nmi hh hn)
    nofun

theorem stepOne_of_faulted {s : State} (h : s.faulted = true) : stepOne s = .next s := by
  rw [stepOne, if_pos h]

/-- Settles O58: `stepOne_exists`; its CPU step has no hook to halt it, and leaves the Clock as `Pause` did. -/
theorem stepOneRunsOneStep : Obligations.StepOneRunsOneStep := by
  refine ⟨fun s => ⟨stepOne_of_faulted, fun hf => ?stepped⟩, fun s t rest hq ha ht => step_host hq ha ht⟩
  case stepped =>
    obtain ⟨r, u, hu, ht⟩ := stepOne_exists s hf
    have noHook : ({ s.pause with hook := .absent } : State).wireInputs.hook = .absent := by rw [wireInputs_eq]
    have proceeds : r ≠ .halted := cpuStep_ne_halted (by rw [noHook, Hook.allows]) hu
    have host := (cpuStep_hostSide hu).trans (wireInputs_hostSide _)
    have putBack : ({ u with hook := s.hook } : State).flush.hook = s.hook := by rw [(flush_eq _).1]
    refine ⟨r, u, proceeds, hu, congrArg HostSide.clock host, ?_⟩
    dsimp only at ht
    rw [putBack] at ht
    exact ht

/-! ### Snapshots -/

/-- The snapshot of a memory in canonical form is not malformed. -/
theorem snapshot_wellFormed {s : State} (h : s.mem.wf = true) : s.snapshot.wellFormed = true := by
  rw [Snapshot.wellFormed, Bool.and_eq_true, List.all_eq_true]
  exact ⟨Memory.filter_wf _ _ h, fun c hc => (List.mem_filter.mp hc).2⟩

/-- RAM and ROM have no address in common. -/
theorem isRom_eq_false_of_isRam {a : Nat} (h : isRam a = true) : isRom a = false := by
  simp only [isRam, isRom, Bool.or_eq_true, Bool.and_eq_true, Bool.and_eq_false_iff, decide_eq_true_eq,
    decide_eq_false_iff_not] at h ⊢
  omega

/-- The RAM cells of one memory put before the ROM cells of another: each part reads as in its own memory. -/
theorem read_ramPart_append_romPart (ram rom : Memory) (b : Nat) :
    (isRam b = true → Memory.read (ram.ramPart ++ rom.romPart) b = ram.read b) ∧
    (isRom b = true → Memory.read (ram.ramPart ++ rom.romPart) b = rom.read b) := by
  constructor <;> intro hb
  · rw [Memory.read_append_left, Memory.ramPart, Memory.read_filter ram b isRam hb]
    rintro c hc rfl
    have inRom : isRom c.1 = true := (List.mem_filter.mp hc).2
    rw [isRom_eq_false_of_isRam hb] at inRom
    cases inRom
  · rw [Memory.read_append_right, Memory.romPart, Memory.read_filter rom b isRom hb]
    rintro c hc rfl
    have inRam : isRam c.1 = true := (List.mem_filter.mp hc).2
    rw [isRom_eq_false_of_isRam inRam] at hb
    cases hb

/-- Clearing a run-to target leaves the breakpoint set (60_exceptions.md R386). -/
theorem clearTarget_allows (target pc : Addr) (set : List Addr) :
    (Hook.runTo target set).clearTarget.allows pc = !set.contains pc := by
  cases set <;> rfl

/-- An accepted snapshot replaces the state, re-times the Clock, and tells one device update (60_exceptions.md R386). -/
theorem loadState_accepted {snap : Snapshot} (hv : snap.version.supported = true) (hw : snap.wellFormed = true) (now : Rat)
    (m : State) : loadState snap now m = { (m.replaceBy snap).resetTiming now with
      pia := ⟨snap.portA, snap.portB, snap.pb7Override, false⟩,
      hostEvents := m.hostEvents ++ [.deviceUpdate ⟨snap.portA, snap.portB, snap.pb7Override, false⟩] } := by
  rw [loadState, hv, hw]
  rfl

theorem loadState_rejected {snap : Snapshot} (h : snap.version.supported = false ∨ snap.wellFormed = false) (now : Rat)
    (m : State) : loadState snap now m = m := by
  rw [loadState, Bool.and_eq_false_iff.mpr h, if_neg Bool.false_ne_true]

/-- Settles O59: what is loaded is `loadState_accepted` of a snapshot that is well-formed, and its memory the RAM of one state and the
ROM of the other. -/
theorem snapshotRoundTrip : Obligations.SnapshotRoundTrip := by
  refine ⟨fun s m now wf => ?loaded, fun snap now m h => loadState_rejected h now m, fun s rest hq => ⟨?saveTurn, ?loadTurn⟩⟩
  case loaded =>
    have memory := read_ramPart_append_romPart s.mem m.mem
    dsimp only
    rw [loadState_accepted rfl (snapshot_wellFormed wf)]
    refine ⟨rfl, rfl, rfl, rfl, rfl, rfl, rfl, fun b => (memory b).1, fun b => (memory b).2, rfl, rfl, rfl, rfl, rfl, ?hook, rfl⟩
    case hook =>
      intro target set hm pc
      change m.hook.clearTarget.allows pc = _
      rw [hm, clearTarget_allows]
  case saveTurn => exact fun ha => step_host hq ha rfl
  case loadTurn => exact fun snap now ha => step_host hq ha rfl

/-! ### HostRead and HostWrite -/

/-- The condition of R387 on an address. -/
theorem inAddressRange_iff (addr : Int) : (0 ≤ addr && addr ≤ 0xFFFF : Bool) = true ↔ 0 ≤ addr ∧ addr ≤ 0xFFFF := by
  rw [Bool.and_eq_true, decide_eq_true_eq, decide_eq_true_eq]

theorem ofInt_eq_ofNat_toNat {n : Int} (h : 0 ≤ n) (w : Nat) : BitVec.ofInt w n = BitVec.ofNat w n.toNat := by
  rw [← BitVec.ofInt_natCast, Int.toNat_of_nonneg h]

/-- `HostWrite` in range is a bus write (60_exceptions.md R387). -/
theorem hostWrite_inRange {addr val : Int} (h : 0 ≤ addr ∧ addr ≤ 0xFFFF ∧ 0 ≤ val ∧ val ≤ 0xFF) (s : State) :
    hostWrite addr val s = s.memWrite (BitVec.ofInt 16 addr) (BitVec.ofInt 8 val) := by
  obtain ⟨a0, a1, v0, v1⟩ := h
  rw [hostWrite, if_pos (by simp [a0, a1, v0, v1]), ofInt_eq_ofNat_toNat a0, ofInt_eq_ofNat_toNat v0]

theorem hostWrite_outOfRange {addr val : Int} (h : ¬ (0 ≤ addr ∧ addr ≤ 0xFFFF ∧ 0 ≤ val ∧ val ≤ 0xFF)) (s : State) :
    hostWrite addr val s = s.emit (.log (.writeRejected addr val)) := by
  rw [hostWrite, if_neg]
  simpa only [Bool.and_eq_true, decide_eq_true_eq, and_assoc] using h

/-- A byte of `HostRead` is a bus read in range and 0 outside; the read's side effects stay if the parameter says so
(60_exceptions.md R387). -/
theorem hostReadByte_eq (s : State) (addr : Int) : s.hostReadByte addr =
    if 0 ≤ addr ∧ addr ≤ 0xFFFF then
      ((s.memRead (BitVec.ofInt 16 addr)).1,
        if s.wiring.hostReadSideEffects then (s.memRead (BitVec.ofInt 16 addr)).2 else s)
    else (0, s) := by
  rw [State.hostReadByte, if_congr (inAddressRange_iff addr) rfl rfl]
  refine ite_congr rfl (fun inRange => ?_) fun _ => rfl
  rw [ofInt_eq_ofNat_toNat inRange.1]

/-- With side effects a byte of `HostRead` is the bus read itself. -/
theorem hostReadByte_of_sideEffects {s : State} (h : s.wiring.hostReadSideEffects = true) (addr : Int) :
    s.hostReadByte addr = if 0 ≤ addr ∧ addr ≤ 0xFFFF then s.memRead (BitVec.ofInt 16 addr) else (0, s) := by
  rw [hostReadByte_eq, h]
  rfl

/-- Without side effects a byte of `HostRead` leaves the state as it was. -/
theorem hostReadByte_of_noSideEffects {s : State} (h : s.wiring.hostReadSideEffects = false) (addr : Int) :
    s.hostReadByte addr =
      (if 0 ≤ addr ∧ addr ≤ 0xFFFF then (s.memRead (BitVec.ofInt 16 addr)).1 else 0, s) := by
  rw [hostReadByte_eq, h]
  split <;> rfl

/-- Without side effects all bytes are read from the one state. -/
theorem hostReadBytes_of_noSideEffects {s : State} (h : s.wiring.hostReadSideEffects = false) (start : Int) (len : Nat) :
    s.hostReadBytes start len = ((List.range len).map fun k : Nat =>
      if 0 ≤ start + k ∧ start + k ≤ 0xFFFF then (s.memRead (BitVec.ofInt 16 (start + k))).1 else 0, s) := by
  induction len generalizing start with
  | zero => rfl
  | succ n ih =>
    have shifted : ∀ k : Nat, start + 1 + k = start + (k + 1 : Nat) := by omega
    simp only [State.hostReadBytes, hostReadByte_of_noSideEffects h, ih, shifted, List.range_succ_eq_map, List.map_cons,
      List.map_map, Function.comp_def, Nat.cast_zero, add_zero, Nat.succ_eq_add_one]

/-- Settles O60: the two cases of `HostWrite`, and the loop of `HostRead` in both settings of the parameter. -/
theorem hostReadAndWrite : Obligations.HostReadAndWrite := by
  refine ⟨fun s addr val => ⟨fun h => hostWrite_inRange h s, fun h => hostWrite_outOfRange h s⟩, fun s start len h => ?pure,
    fun s start => ⟨rfl, fun n h => ?effects⟩, fun s start len => rfl, fun s rest hq => ⟨?readTurn, ?writeTurn⟩⟩
  case pure =>
    rw [hostRead, hostReadBytes_of_noSideEffects h]
    rfl
  case effects =>
    intro r
    rw [State.hostReadBytes, hostReadByte_of_sideEffects h]
  case readTurn => exact fun start len ha => step_host hq ha rfl
  case writeTurn => exact fun addr val ha => step_host hq ha rfl

end Sys2Proof.Machine
end

section
/-! SUPPORT. Quanta: what a stopped machine does, what a halt does, and what a CPU step that proceeds leaves to the host
(60_exceptions.md R361, R363, R369). -/

namespace Sys2Proof.Machine

theorem startQuantum_of_stopped {s : State} (h : s.stopped = true) (asked : Nat) : startQuantum asked s = .next s := by
  rw [startQuantum, if_pos h]

theorem step_idle {s : State} (h : s.stopped = true) (hq : s.quantumLeft = 0) (ha : s.agenda = []) : step s = .next s := by
  simp only [step, advance, if_pos hq, ha, startQuantum_of_stopped h]

theorem step_stoppedInQuantum {s : State} (h : s.stopped = true) (hq : s.quantumLeft ≠ 0) :
    step s = .next ({ s with quantumLeft := 0 } : State).flush := by
  rw [step, advance, if_neg hq, continueQuantum, if_pos h, State.endQuantum]

/-- Inside the quantum and its inputs wired, a state is as it was but for the agenda, the steps left and the inputs. -/
theorem State.inQuantum_wired {s q : State} (hq : s.inQuantum q) : q.wireInputs = { s with
    agenda := q.agenda, quantumLeft := q.quantumLeft, inputs := q.wireInputs.inputs } := by
  rw [wireInputs_eq]
  exact congrArg (fun u : State => { u with inputs := q.wireInputs.inputs }) (State.inQuantum_eq hq)

/-- A hook that halts ends the quantum: the Clock is paused and the host is told (60_exceptions.md R301, R361). -/
theorem cpuTurn_halted {q : State} (h : cpuStep q.wireInputs = .next (.halted, q.wireInputs)) :
    cpuTurn q = .next ({ q.wireInputs with
      clock := { q.wireInputs.clock with paused := true },
      hostEvents := q.wireInputs.hostEvents ++ [.hookHalted q.wireInputs.pc], quantumLeft := 0 } : State).flush := by
  rw [cpuTurn, h]
  rfl

theorem quantumLength_fast {c : Clock} (hc : 0 < c.chunk) (hf : c.cycleAccurate = false) (asked : Nat) :
    quantumLength asked c = c.chunk := by
  rw [quantumLength, hf, if_neg Bool.false_ne_true, Nat.max_eq_right hc]

theorem quantumLength_accurate {c : Clock} (ha : c.cycleAccurate = true) (asked : Nat) :
    quantumLength asked c = max 1 (min asked c.chunk) := by
  rw [quantumLength, if_pos ha]

/-- Settles O46: a stopped machine has no CPU step, a halt is `cpuTurn_halted` in the state inside the quantum, and the lengths are
those of `quantumLength`. -/
theorem quantumRules : Obligations.QuantumRules := by
  refine ⟨fun s stopped => ⟨step_idle stopped, fun n rest hq ha => ?turn, step_stoppedInQuantum stopped⟩,
    fun s q running hq halts => ?halted, fun clock pos => ⟨quantumLength_fast pos, fun accurate => ⟨fun n => ?within, ?asked⟩⟩⟩
  case turn =>
    rw [step_turn hq ha]
    exact startQuantum_of_stopped (s := { s with agenda := rest }) stopped n
  case halted =>
    have wired := State.inQuantum_wired hq
    have halted : cpuStep q.wireInputs = .next (.halted, q.wireInputs) := cpuStep_halted (by rw [wired]; exact halts)
    have clock : q.wireInputs.clock = s.clock := by rw [wired]
    have events : q.wireInputs.hostEvents = s.hostEvents := by rw [wired]
    have pc : q.wireInputs.pc = s.pc := by rw [wired]
    rw [step_inQuantum running hq, cpuTurn_halted halted, clock, events, pc]
  case within =>
    obtain ⟨nonzero, le⟩ := quantumLength_bounds n clock pos
    exact ⟨Nat.one_le_iff_ne_zero.mpr nonzero, le⟩
  case asked =>
    intro n one le
    rw [quantumLength_accurate accurate, Nat.min_eq_left le, Nat.max_eq_right one]

/-- Settles O47: a CPU step that is not halted leaves the host's side alone, and counting the quantum down or ending it with a flush does
not touch what is named here. -/
theorem programCannotStopTheMachine : Obligations.ProgramCannotStopTheMachine := by
  intro s q t running hq proceeds ht
  have wired := State.inQuantum_wired hq
  obtain ⟨r, u, hu, -⟩ := cpuTurn_exists q
  have notHalted : r ≠ .halted := cpuStep_ne_halted (by rw [wired]; exact proceeds) hu
  have host : u.hostSide = q.wireInputs.hostSide := cpuStep_hostSide hu
  rw [wired] at host
  simp only [State.hostSide, HostSide.mk.injEq] at host
  obtain ⟨hook, clock, faulted, -, wiring, agenda, -, -⟩ := host
  have stopped : u.stopped = false := by rw [State.stopped, clock, faulted]; exact running
  have kept : u.stopped = false ∧ u.clock = s.clock ∧ u.hook = s.hook ∧ u.wiring = s.wiring ∧ u.agenda = q.agenda :=
    ⟨stopped, clock, hook, wiring, agenda⟩
  rw [step_inQuantum running hq, cpuTurn_next hu notHalted] at ht
  cases ht
  split
  · rw [(flush_eq _).1]
    exact kept
  · exact kept

end Sys2Proof.Machine
end

section
/-! SUPPORT. Interrupt entry with its frame (60_exceptions.md R305), and the cost of a CPU step (70_reset_and_hazards.md R420,
R421). -/

namespace Sys2Proof.Machine

/-! ### Interrupt entry -/

/-- The three vectors lie in ROM, and the byte after each does not wrap (20_memory.md R72). -/
theorem vector_isRom {vector : Addr} (h : vector = nmiVector ∨ vector = resetVector ∨ vector = irqVector) :
    isRom vector.toNat = true ∧ isRom (vector + 1).toNat = true ∧ (vector + 1).toNat = vector.toNat + 1 := by
  rcases h with rfl | rfl | rfl <;> decide

/-- Three writes leave every byte at a fourth address as it was. -/
theorem read_beside_three_writes (m : Memory) {a b c k : Nat} (u v w : Byte) (ha : k ≠ a) (hb : k ≠ b) (hc : k ≠ c) :
    (((m.write a u).write b v).write c w).read k = m.read k := by
  rw [Memory.read_write_other _ _ _ _ hc.symm, Memory.read_write_other _ _ _ _ hb.symm, Memory.read_write_other _ _ _ _ ha.symm]

/-- Settles O43: `interrupt_eq_of_isRom`; the three stacked bytes are read back, though `S` may wrap between the pushes. -/
theorem interruptEntry : Obligations.InterruptEntry := by
  intro s vector b hv m
  obtain ⟨rom, romNext, next⟩ := vector_isRom hv
  obtain ⟨high, low, status⟩ := read_of_three_pushes s.mem s.sp (hi s.pc) (lo s.pc) (statusByte b s.flags)
  refine ⟨?entry, high, low, status, fun k => read_beside_three_writes s.mem _ _ _⟩
  case entry => rw [interrupt_eq_of_isRom s vector b rom romNext, next]

/-! ### The cost of a CPU step -/

/-- The most a cell's `+p` can add: the cost of a branch taken across a page, or one page crossing (30_encoding.md R108). -/
def extraBound (row : Row) : Nat := if row.mode = .rel then 2 else if row.penalty then 1 else 0

/-- In every cell the base cost is at least 2, and with all that can come on top at most 8 (70_reset_and_hazards.md R420). -/
theorem rowOf_cycles_bounds (op : Byte) : 2 ≤ (rowOf op).cycles ∧ (rowOf op).cycles + extraBound (rowOf op) ≤ 8 := by
  have all : ∀ rows ∈ opcodeMap, ∀ row ∈ rows, 2 ≤ row.cycles ∧ row.cycles + extraBound row ≤ 8 := by decide
  obtain ⟨rows, hrows, hrow⟩ := rowOf_mem op
  exact all rows hrows _ hrow

theorem pagePenalty_le (penalty crossed : Bool) : pagePenalty penalty crossed ≤ if penalty then 1 else 0 := by
  cases penalty <;> cases crossed <;> decide

/-- What an instruction costs lies between its base cost and the bound of its cell. -/
theorem costOf_within_row (i : Instr) (s : State) :
    i.row.cycles ≤ costOf i s ∧ costOf i s ≤ i.row.cycles + extraBound i.row := by
  refine ⟨Nat.le_add_right _ _, Nat.add_le_add_left ?_ _⟩
  rw [extraBound, Instr.mode]
  split
  · split
    · exact Nat.add_le_add_left (pagePenalty_le true _) 1
    · exact Nat.zero_le _
  · exact pagePenalty_le _ _

theorem costOf_bounds (i : Instr) (s : State) : 2 ≤ costOf i s ∧ costOf i s ≤ 8 := by
  obtain ⟨atLeast, atMost⟩ := costOf_within_row i s
  obtain ⟨two, eight⟩ := rowOf_cycles_bounds i.opcode
  exact ⟨two.trans atLeast, atMost.trans eight⟩

/-- Settles O5, by the results of a CPU step; an instruction costs what its cell says (`exec_cycles`), and its fetch nothing. -/
theorem costBounds : Obligations.CostBounds := by
  intro s t r h
  cases hh : s.hook.allows s.pc
  case false =>
    cases h.symm.trans (cpuStep_halted hh)
    simp
  cases hn : s.inputs.nmiPending
  case true =>
    cases h.symm.trans (cpuStep_nmi hh hn)
    simp [takeNmi_eq]
  cases hi : s.irqTaken
  case true =>
    cases h.symm.trans (cpuStep_irq hh hn hi)
    simp [takeIrq_eq]
  obtain ⟨i, u, -, hu, hc⟩ := cpuStep_instr hh hn hi
  cases h.symm.trans hc
  have fetched : s.fetch.2.cycles = s.cycles := by rw [fetch_eq]
  have spent := exec_cycles hu
  obtain ⟨two, eight⟩ := costOf_bounds i s.fetch.2
  rw [fetched] at spent
  exact ⟨nofun, nofun, fun _ => ⟨by omega, by omega⟩⟩

end Sys2Proof.Machine
end
